-- ==== Sys2Proof/Word.lean ====
section
/-! DEFINITION. The widths of the block: 32-bit values (00_scope.md R4 `WORD`), bytes of the memory
region, and the two identifier ranges that the dispatcher checks (R4 `N_CHANNELS`, `N_SUBCHANNELS`). -/

namespace Sys2Proof

/-- A register address, a register value, a command parameter: 32 bits, unsigned (00_scope.md R4, R7). -/
abbrev Word := BitVec 32

/-- One byte of the memory region (20_memory.md R51). -/
abbrev Byte := BitVec 8

/-- A channel id that has passed its check, 0 to 31 (00_scope.md R4, 42_command_dispatcher.md R151). -/
abbrev ChanId := Fin 32

/-- A subchannel id that has passed its check, 0 to 7 (00_scope.md R4, 42_command_dispatcher.md R151). -/
abbrev SubId := Fin 8

end Sys2Proof
end

