-- ==== Sys2Proof/Config.lean ====
section
/-! DEFINITION. The implementation parameters: those the spec fixes (00_scope.md R4) and those it leaves
to the configuration (R5). The open parameters of a device instance are fields of the plain-data
structure `Config`; what the launched device has where the spec gives no default is an opaque constant. -/

namespace Sys2Proof

/-- Size of the register space, the source's `GEFORCE_MMIO_SIZE` (00_scope.md R4). -/
def mmioSize : Nat := 0x1000000

/-- The closed set of engine classes (00_scope.md R4). -/
inductive EngineClass
  | kelvin | surf2d | gdi | m2mf | ifc
deriving DecidableEq, Repr

/-- The ten methods of the 3D engine (30_encoding.md R76). -/
inductive D3DMethod
  | semaphoreObject | semaphoreOffset | clipHorizontal | clipVertical | surfaceFormat
  | surfacePitch | surfaceColorOffset | colorClearValue | semaphoreAcquire | clearSurface
deriving DecidableEq, Repr

/-- The four methods of the 2D-surface engine (30_encoding.md R76). -/
inductive Surf2DMethod
  | format | pitch | offsetSrc | offsetDst
deriving DecidableEq, Repr

/-- The parameter `BYTE_ORDER` (20_memory.md R51). -/
inductive ByteOrder
  | little | big
deriving DecidableEq, Repr

/-- The parameter `KickFetch` (00_scope.md R5): the default one-pair stub of
42_command_dispatcher.md R163, or a replacement at the pluggable point, which is then the opaque
function `Config.pluggedFetch` of the device (log entry 9). -/
inductive KickFetch
  | stub | plugged
deriving DecidableEq, Repr

/-- The parameters of 00_scope.md R5, one device instance's. No operation writes one.
`REGION_SIZE` is held as the bytes below the instance-memory window, so that a configuration with
`RAMIN_SIZE > REGION_SIZE`, which is refused before any transaction (44_memory_shim.md R196),
cannot be written down (log entry 6). The three decode functions are finite tables (log entry 5). -/
structure Config where
  /-- `REGION_SIZE - RAMIN_SIZE`. -/
  regionBelow : Nat
  /-- `RAMIN_SIZE`, default `0x10000`. -/
  raminSize : Nat := 0x10000
  /-- `BYTE_ORDER`, default little. -/
  byteOrder : ByteOrder := .little
  /-- The graph of `ClassOf`. -/
  classTags : List (Word × EngineClass)
  /-- The graph of `D3DMethodOf`. -/
  d3dCodes : List (Word × D3DMethod)
  /-- The graph of `Surf2DMethodOf`. -/
  surf2dCodes : List (Word × Surf2DMethod)
  /-- `KICK_PARAM`. -/
  kickParam : Word
  /-- `KickFetch`, default the stub. -/
  kickFetch : KickFetch := .stub
deriving DecidableEq, Repr

/-- `REGION_SIZE` (00_scope.md R5). -/
def Config.regionSize (c : Config) : Nat := c.regionBelow + c.raminSize

/-- `ClassOf`: total from a 32-bit tag to an engine class or none (00_scope.md R5, 30_encoding.md R75). -/
def Config.classOf (c : Config) (tag : Word) : Option EngineClass := c.classTags.lookup tag

/-- `D3DMethodOf` (00_scope.md R5, 30_encoding.md R76). -/
def Config.d3dMethodOf (c : Config) (code : Word) : Option D3DMethod := c.d3dCodes.lookup code

/-- `Surf2DMethodOf` (00_scope.md R5, 30_encoding.md R76). -/
def Config.surf2dMethodOf (c : Config) (code : Word) : Option Surf2DMethod :=
  c.surf2dCodes.lookup code

/-- The configuration with the given sizes of region and window, or its refusal where the window is
larger than the region (44_memory_shim.md R196, 92_eei_decisions.md D18). -/
def Config.withSizes (c : Config) (regionSize raminSize : Nat) : Option Config :=
  if raminSize ≤ regionSize then
    some { c with regionBelow := regionSize - raminSize, raminSize := raminSize }
  else none

/-- OPEN, no body: the size of the launched device's region below its window (00_scope.md R5, U12).
DESIGN CHOICE, log entry 4. -/
opaque Config.launchRegionBelow : Nat

/-- OPEN, no body: the launched device's class tags (93_implementation_defined.md U1). Log entry 4. -/
opaque Config.launchClassTags : List (Word × EngineClass)

/-- OPEN, no body: the launched device's 3D method codes (93_implementation_defined.md U2). Log entry 4. -/
opaque Config.launchD3dCodes : List (Word × D3DMethod)

/-- OPEN, no body: the launched device's 2D-surface method codes (93_implementation_defined.md U2).
Log entry 4. -/
opaque Config.launchSurf2dCodes : List (Word × Surf2DMethod)

/-- OPEN, no body: the launched device's `KICK_PARAM` (93_implementation_defined.md U3). Log entry 10. -/
opaque Config.launchKickParam : Word

/-- OPEN, no body: the byte that address `a` of the region holds before anything has written it
(10_state.md R39, R43; 93_implementation_defined.md U14: any value). Log entry 7. -/
opaque Config.initialByte (a : Nat) : Byte

/-- The configuration of the device at launch: the spec's defaults where it gives one, an opaque
constant where it gives none (00_scope.md R5; log entry 4). -/
def Config.launch : Config where
  regionBelow := Config.launchRegionBelow
  classTags := Config.launchClassTags
  d3dCodes := Config.launchD3dCodes
  surf2dCodes := Config.launchSurf2dCodes
  kickParam := Config.launchKickParam

end Sys2Proof
end

