-- ==== Sys2Proof/Syntax.lean ====
section
/-! DEFINITION. The syntax of the block: the register names (10_state.md R10), the transaction records of
the seven formats (30_encoding.md R70), and the operations, one constructor for each row of
opcode_table.json (30_encoding.md R78). -/

namespace Sys2Proof

/-- The nineteen stored registers (10_state.md R12 to R30), in the order of their addresses. -/
inductive Reg
  | mcIntrEn | mcEnable | busIntr | busIntrEn
  | fifoIntr | fifoIntrEn | fifoRamht | fifoRamfc
  | fifoRamro | fifoMode | cache1Push1 | cache1Put
  | cache1DmaPush | cache1DmaInstance | cache1DmaPut | cache1DmaGet
  | cache1RefCnt | cache1Pull | cache1Semaphore
deriving DecidableEq, Repr

/-- The twenty addressed registers (10_state.md R10): the computed view `MC_INTR` (R11) and the nineteen
stored ones. -/
inductive MmioReg
  | mcIntr
  | stored (r : Reg)
deriving DecidableEq, Repr

/-- The seven transaction formats (30_encoding.md R70). -/
inductive Format
  | mmio | ramin | lin | cmd | d3dcmd | evt | rst
deriving DecidableEq, Repr

/-- A transaction: a record of named unsigned fields in one of the seven formats (30_encoding.md R70).
The `dir` and `bank` fields are part of the constructor's name. There is no packing of a record into
bits (30_encoding.md R70, R80; log entry 1): the record is the encoding. -/
inductive Transaction
  /-- `MMIO`, `dir = read` (R71). The boundary validator passes sizes 1 to 4; a record may hold any
  (20_memory.md R53). -/
  | mmioRead (addr : Word) (size : Nat)
  /-- `MMIO`, `dir = write` (R71). -/
  | mmioWrite (addr : Word) (size : Nat) (data : Word)
  /-- `RAMIN`, `dir = read`. -/
  | raminRead (addr size : Nat)
  /-- `RAMIN`, `dir = write`. -/
  | raminWrite (addr size : Nat) (data : Word)
  /-- `LIN`, `dir = read`. -/
  | linRead (object offset : Word)
  /-- `LIN`, `dir = write`. -/
  | linWrite (object offset value : Word)
  /-- `CMD`, `execute_engine_command`. -/
  | cmd (chid subc cls method param : Word)
  /-- `D3DCMD`, `execute_d3d_command`. -/
  | d3dcmd (chid method param : Word)
  /-- `EVT`, `bank = bus`. -/
  | evtBus (mask : Word)
  /-- `EVT`, `bank = FIFO`. -/
  | evtFifo (mask : Word)
  /-- `RST`. -/
  | rst
deriving DecidableEq, Repr

/-- The format of a record (30_encoding.md R70). -/
def Transaction.format : Transaction → Format
  | .mmioRead _ _ => .mmio
  | .mmioWrite _ _ _ => .mmio
  | .raminRead _ _ => .ramin
  | .raminWrite _ _ _ => .ramin
  | .linRead _ _ => .lin
  | .linWrite _ _ _ => .lin
  | .cmd _ _ _ _ _ => .cmd
  | .d3dcmd _ _ _ => .d3dcmd
  | .evtBus _ => .evt
  | .evtFifo _ => .evt
  | .rst => .rst

/-- How a 3D method was entered: through `CMD` with a subchannel and the class tag, or through `D3DCMD`,
which takes neither (42_command_dispatcher.md R153, R166). -/
inductive Entry
  | cmd (subc : SubId) (cls : Word)
  | d3dcmd
deriving DecidableEq, Repr

/-- The operations: one constructor per row of opcode_table.json, in its order. The operands are the
fields of the record that the row's operation keeps; a row that is entered after the channel and
subchannel checks carries ids that have passed them (log entry 12). `cmd` and `d3dcmd` are the two entry
points, each of which resolves to one of the rows after it; `kick` is internal and no interface issues
it (30_encoding.md R78; log entry 11). -/
inductive Instr
  /-- `RD.MC_INTR`, R100. -/
  | rdMcIntr
  /-- `WR.MC_INTR`, R101. -/
  | wrMcIntr (data : Word)
  /-- `RD.MC_INTR_EN`, R102. -/
  | rdMcIntrEn
  /-- `WR.MC_INTR_EN`, R103. -/
  | wrMcIntrEn (data : Word)
  /-- `RD.MC_ENABLE`, R104. -/
  | rdMcEnable
  /-- `WR.MC_ENABLE`, R105. -/
  | wrMcEnable (data : Word)
  /-- `RD.BUS_INTR`, R106. -/
  | rdBusIntr
  /-- `WR.BUS_INTR`, R107. -/
  | wrBusIntr (data : Word)
  /-- `RD.BUS_INTR_EN`, R108. -/
  | rdBusIntrEn
  /-- `WR.BUS_INTR_EN`, R109. -/
  | wrBusIntrEn (data : Word)
  /-- `RD.FIFO_INTR`, R110. -/
  | rdFifoIntr
  /-- `WR.FIFO_INTR`, R111. -/
  | wrFifoIntr (data : Word)
  /-- `RD.FIFO_INTR_EN`, R112. -/
  | rdFifoIntrEn
  /-- `WR.FIFO_INTR_EN`, R113. -/
  | wrFifoIntrEn (data : Word)
  /-- `RD.FIFO_RAMHT`, R114. -/
  | rdFifoRamht
  /-- `WR.FIFO_RAMHT`, R115. -/
  | wrFifoRamht (data : Word)
  /-- `RD.FIFO_RAMFC`, R116. -/
  | rdFifoRamfc
  /-- `WR.FIFO_RAMFC`, R117. -/
  | wrFifoRamfc (data : Word)
  /-- `RD.FIFO_RAMRO`, R118. -/
  | rdFifoRamro
  /-- `WR.FIFO_RAMRO`, R119. -/
  | wrFifoRamro (data : Word)
  /-- `RD.FIFO_MODE`, R120. -/
  | rdFifoMode
  /-- `WR.FIFO_MODE`, R121. -/
  | wrFifoMode (data : Word)
  /-- `RD.CACHE1_PUSH1`, R122. -/
  | rdCache1Push1
  /-- `WR.CACHE1_PUSH1`, R123. -/
  | wrCache1Push1 (data : Word)
  /-- `RD.CACHE1_PUT`, R124. -/
  | rdCache1Put
  /-- `WR.CACHE1_PUT`, R125. -/
  | wrCache1Put (data : Word)
  /-- `RD.CACHE1_DMA_PUSH`, R126. -/
  | rdCache1DmaPush
  /-- `WR.CACHE1_DMA_PUSH`, R127. -/
  | wrCache1DmaPush (data : Word)
  /-- `RD.CACHE1_DMA_INSTANCE`, R128. -/
  | rdCache1DmaInstance
  /-- `WR.CACHE1_DMA_INSTANCE`, R129. -/
  | wrCache1DmaInstance (data : Word)
  /-- `RD.CACHE1_DMA_PUT`, R130. -/
  | rdCache1DmaPut
  /-- `WR.CACHE1_DMA_PUT`, R131. -/
  | wrCache1DmaPut (data : Word)
  /-- `RD.CACHE1_DMA_GET`, R132. -/
  | rdCache1DmaGet
  /-- `WR.CACHE1_DMA_GET`, R133. -/
  | wrCache1DmaGet (data : Word)
  /-- `RD.CACHE1_REF_CNT`, R134. -/
  | rdCache1RefCnt
  /-- `WR.CACHE1_REF_CNT`, R135. -/
  | wrCache1RefCnt (data : Word)
  /-- `RD.CACHE1_PULL`, R136. -/
  | rdCache1Pull
  /-- `WR.CACHE1_PULL`, R137. -/
  | wrCache1Pull (data : Word)
  /-- `RD.CACHE1_SEMAPHORE`, R138. -/
  | rdCache1Semaphore
  /-- `WR.CACHE1_SEMAPHORE`, R139. -/
  | wrCache1Semaphore (data : Word)
  /-- `RD.BADSIZE`, R92. -/
  | rdBadsize (addr : Word) (size : Nat)
  /-- `WR.BADSIZE`, R93. -/
  | wrBadsize (addr : Word) (size : Nat) (data : Word)
  /-- `RD.OOR`, R94. -/
  | rdOor (addr : Word)
  /-- `WR.OOR`, R95. -/
  | wrOor (addr : Word) (data : Word)
  /-- `RD.UNKNOWN`, R96. -/
  | rdUnknown (addr : Word)
  /-- `WR.UNKNOWN`, R97. -/
  | wrUnknown (addr : Word) (data : Word)
  /-- `RAMIN.RD`, R193. -/
  | raminRd (addr : Nat) (size : Nat)
  /-- `RAMIN.WR`, R194. -/
  | raminWr (addr : Nat) (size : Nat) (data : Word)
  /-- `READ32`, R191. -/
  | read32 (object : Word) (offset : Word)
  /-- `WRITE32`, R192. -/
  | write32 (object : Word) (offset : Word) (value : Word)
  /-- `CMD`, R150. -/
  | cmd (chid : Word) (subc : Word) (cls : Word) (method : Word) (param : Word)
  /-- `D3DCMD`, R166. -/
  | d3dcmd (chid : Word) (method : Word) (param : Word)
  /-- `CMD.BADCHID`, R151. -/
  | cmdBadchid (chid : Word) (subc : Word) (cls : Word) (method : Word) (param : Word)
  /-- `CMD.BADSUBC`, R151. -/
  | cmdBadsubc (chid : ChanId) (subc : Word) (cls : Word) (method : Word) (param : Word)
  /-- `KELVIN.SEMAPHORE_OBJECT`, R171. -/
  | kelvinSemaphoreObject (via : Entry) (chid : ChanId) (method : Word) (param : Word)
  /-- `KELVIN.SEMAPHORE_OFFSET`, R172. -/
  | kelvinSemaphoreOffset (via : Entry) (chid : ChanId) (method : Word) (param : Word)
  /-- `KELVIN.CLIP_HORIZONTAL`, R173. -/
  | kelvinClipHorizontal (via : Entry) (chid : ChanId) (method : Word) (param : Word)
  /-- `KELVIN.CLIP_VERTICAL`, R174. -/
  | kelvinClipVertical (via : Entry) (chid : ChanId) (method : Word) (param : Word)
  /-- `KELVIN.SURFACE_FORMAT`, R175. -/
  | kelvinSurfaceFormat (via : Entry) (chid : ChanId) (method : Word) (param : Word)
  /-- `KELVIN.SURFACE_PITCH`, R177. -/
  | kelvinSurfacePitch (via : Entry) (chid : ChanId) (method : Word) (param : Word)
  /-- `KELVIN.SURFACE_COLOR_OFFSET`, R178. -/
  | kelvinSurfaceColorOffset (via : Entry) (chid : ChanId) (method : Word) (param : Word)
  /-- `KELVIN.CLEAR_SURFACE`, R179. -/
  | kelvinClearSurface (via : Entry) (chid : ChanId) (method : Word) (param : Word)
  /-- `KELVIN.COLOR_CLEAR_VALUE`, R180. -/
  | kelvinColorClearValue (via : Entry) (chid : ChanId) (method : Word) (param : Word)
  /-- `KELVIN.SEMAPHORE_ACQUIRE`, R181. -/
  | kelvinSemaphoreAcquire (via : Entry) (chid : ChanId) (method : Word) (param : Word)
  /-- `KELVIN.UNKNOWN`, R182. -/
  | kelvinUnknown (via : Entry) (chid : ChanId) (method : Word) (param : Word)
  /-- `SURF2D.FORMAT`, R154. -/
  | surf2dFormat (chid : ChanId) (subc : SubId) (cls : Word) (method : Word) (param : Word)
  /-- `SURF2D.PITCH`, R155. -/
  | surf2dPitch (chid : ChanId) (subc : SubId) (cls : Word) (method : Word) (param : Word)
  /-- `SURF2D.OFFSET_SRC`, R156. -/
  | surf2dOffsetSrc (chid : ChanId) (subc : SubId) (cls : Word) (method : Word) (param : Word)
  /-- `SURF2D.OFFSET_DST`, R157. -/
  | surf2dOffsetDst (chid : ChanId) (subc : SubId) (cls : Word) (method : Word) (param : Word)
  /-- `SURF2D.UNKNOWN`, R158. -/
  | surf2dUnknown (chid : ChanId) (subc : SubId) (cls : Word) (method : Word) (param : Word)
  /-- `GDI.ANY`, R159. -/
  | gdiAny (chid : ChanId) (subc : SubId) (cls : Word) (method : Word) (param : Word)
  /-- `M2MF.ANY`, R160. -/
  | m2mfAny (chid : ChanId) (subc : SubId) (cls : Word) (method : Word) (param : Word)
  /-- `IFC.ANY`, R161. -/
  | ifcAny (chid : ChanId) (subc : SubId) (cls : Word) (method : Word) (param : Word)
  /-- `CLASS.UNKNOWN`, R162. -/
  | classUnknown (chid : ChanId) (subc : SubId) (cls : Word) (method : Word) (param : Word)
  /-- `EVENT.BUS`, R144. -/
  | eventBus (mask : Word)
  /-- `EVENT.FIFO`, R145. -/
  | eventFifo (mask : Word)
  /-- `RESET`, R230. -/
  | reset
  /-- `KICK`, R163. -/
  | kick
deriving DecidableEq, Repr

/-- The formats that can carry an operation: the `format` column of opcode_table.json (none: internal). -/
def Instr.formats : Instr → List Format
  | .rdMcIntr => [.mmio]
  | .wrMcIntr _ => [.mmio]
  | .rdMcIntrEn => [.mmio]
  | .wrMcIntrEn _ => [.mmio]
  | .rdMcEnable => [.mmio]
  | .wrMcEnable _ => [.mmio]
  | .rdBusIntr => [.mmio]
  | .wrBusIntr _ => [.mmio]
  | .rdBusIntrEn => [.mmio]
  | .wrBusIntrEn _ => [.mmio]
  | .rdFifoIntr => [.mmio]
  | .wrFifoIntr _ => [.mmio]
  | .rdFifoIntrEn => [.mmio]
  | .wrFifoIntrEn _ => [.mmio]
  | .rdFifoRamht => [.mmio]
  | .wrFifoRamht _ => [.mmio]
  | .rdFifoRamfc => [.mmio]
  | .wrFifoRamfc _ => [.mmio]
  | .rdFifoRamro => [.mmio]
  | .wrFifoRamro _ => [.mmio]
  | .rdFifoMode => [.mmio]
  | .wrFifoMode _ => [.mmio]
  | .rdCache1Push1 => [.mmio]
  | .wrCache1Push1 _ => [.mmio]
  | .rdCache1Put => [.mmio]
  | .wrCache1Put _ => [.mmio]
  | .rdCache1DmaPush => [.mmio]
  | .wrCache1DmaPush _ => [.mmio]
  | .rdCache1DmaInstance => [.mmio]
  | .wrCache1DmaInstance _ => [.mmio]
  | .rdCache1DmaPut => [.mmio]
  | .wrCache1DmaPut _ => [.mmio]
  | .rdCache1DmaGet => [.mmio]
  | .wrCache1DmaGet _ => [.mmio]
  | .rdCache1RefCnt => [.mmio]
  | .wrCache1RefCnt _ => [.mmio]
  | .rdCache1Pull => [.mmio]
  | .wrCache1Pull _ => [.mmio]
  | .rdCache1Semaphore => [.mmio]
  | .wrCache1Semaphore _ => [.mmio]
  | .rdBadsize _ _ => [.mmio]
  | .wrBadsize _ _ _ => [.mmio]
  | .rdOor _ => [.mmio]
  | .wrOor _ _ => [.mmio]
  | .rdUnknown _ => [.mmio]
  | .wrUnknown _ _ => [.mmio]
  | .raminRd _ _ => [.ramin]
  | .raminWr _ _ _ => [.ramin]
  | .read32 _ _ => [.lin]
  | .write32 _ _ _ => [.lin]
  | .cmd _ _ _ _ _ => [.cmd]
  | .d3dcmd _ _ _ => [.d3dcmd]
  | .cmdBadchid _ _ _ _ _ => [.cmd]
  | .cmdBadsubc _ _ _ _ _ => [.cmd]
  | .kelvinSemaphoreObject _ _ _ _ => [.cmd, .d3dcmd]
  | .kelvinSemaphoreOffset _ _ _ _ => [.cmd, .d3dcmd]
  | .kelvinClipHorizontal _ _ _ _ => [.cmd, .d3dcmd]
  | .kelvinClipVertical _ _ _ _ => [.cmd, .d3dcmd]
  | .kelvinSurfaceFormat _ _ _ _ => [.cmd, .d3dcmd]
  | .kelvinSurfacePitch _ _ _ _ => [.cmd, .d3dcmd]
  | .kelvinSurfaceColorOffset _ _ _ _ => [.cmd, .d3dcmd]
  | .kelvinClearSurface _ _ _ _ => [.cmd, .d3dcmd]
  | .kelvinColorClearValue _ _ _ _ => [.cmd, .d3dcmd]
  | .kelvinSemaphoreAcquire _ _ _ _ => [.cmd, .d3dcmd]
  | .kelvinUnknown _ _ _ _ => [.cmd, .d3dcmd]
  | .surf2dFormat _ _ _ _ _ => [.cmd]
  | .surf2dPitch _ _ _ _ _ => [.cmd]
  | .surf2dOffsetSrc _ _ _ _ _ => [.cmd]
  | .surf2dOffsetDst _ _ _ _ _ => [.cmd]
  | .surf2dUnknown _ _ _ _ _ => [.cmd]
  | .gdiAny _ _ _ _ _ => [.cmd]
  | .m2mfAny _ _ _ _ _ => [.cmd]
  | .ifcAny _ _ _ _ _ => [.cmd]
  | .classUnknown _ _ _ _ _ => [.cmd]
  | .eventBus _ => [.evt]
  | .eventFifo _ => [.evt]
  | .reset => [.rst]
  | .kick => []

/-- The two entry points of the dispatcher, whose records decode further (30_encoding.md R74, R78). -/
def Instr.isEntryPoint : Instr → Bool
  | .rdMcIntr => false
  | .wrMcIntr _ => false
  | .rdMcIntrEn => false
  | .wrMcIntrEn _ => false
  | .rdMcEnable => false
  | .wrMcEnable _ => false
  | .rdBusIntr => false
  | .wrBusIntr _ => false
  | .rdBusIntrEn => false
  | .wrBusIntrEn _ => false
  | .rdFifoIntr => false
  | .wrFifoIntr _ => false
  | .rdFifoIntrEn => false
  | .wrFifoIntrEn _ => false
  | .rdFifoRamht => false
  | .wrFifoRamht _ => false
  | .rdFifoRamfc => false
  | .wrFifoRamfc _ => false
  | .rdFifoRamro => false
  | .wrFifoRamro _ => false
  | .rdFifoMode => false
  | .wrFifoMode _ => false
  | .rdCache1Push1 => false
  | .wrCache1Push1 _ => false
  | .rdCache1Put => false
  | .wrCache1Put _ => false
  | .rdCache1DmaPush => false
  | .wrCache1DmaPush _ => false
  | .rdCache1DmaInstance => false
  | .wrCache1DmaInstance _ => false
  | .rdCache1DmaPut => false
  | .wrCache1DmaPut _ => false
  | .rdCache1DmaGet => false
  | .wrCache1DmaGet _ => false
  | .rdCache1RefCnt => false
  | .wrCache1RefCnt _ => false
  | .rdCache1Pull => false
  | .wrCache1Pull _ => false
  | .rdCache1Semaphore => false
  | .wrCache1Semaphore _ => false
  | .rdBadsize _ _ => false
  | .wrBadsize _ _ _ => false
  | .rdOor _ => false
  | .wrOor _ _ => false
  | .rdUnknown _ => false
  | .wrUnknown _ _ => false
  | .raminRd _ _ => false
  | .raminWr _ _ _ => false
  | .read32 _ _ => false
  | .write32 _ _ _ => false
  | .cmd _ _ _ _ _ => true
  | .d3dcmd _ _ _ => true
  | .cmdBadchid _ _ _ _ _ => false
  | .cmdBadsubc _ _ _ _ _ => false
  | .kelvinSemaphoreObject _ _ _ _ => false
  | .kelvinSemaphoreOffset _ _ _ _ => false
  | .kelvinClipHorizontal _ _ _ _ => false
  | .kelvinClipVertical _ _ _ _ => false
  | .kelvinSurfaceFormat _ _ _ _ => false
  | .kelvinSurfacePitch _ _ _ _ => false
  | .kelvinSurfaceColorOffset _ _ _ _ => false
  | .kelvinClearSurface _ _ _ _ => false
  | .kelvinColorClearValue _ _ _ _ => false
  | .kelvinSemaphoreAcquire _ _ _ _ => false
  | .kelvinUnknown _ _ _ _ => false
  | .surf2dFormat _ _ _ _ _ => false
  | .surf2dPitch _ _ _ _ _ => false
  | .surf2dOffsetSrc _ _ _ _ _ => false
  | .surf2dOffsetDst _ _ _ _ _ => false
  | .surf2dUnknown _ _ _ _ _ => false
  | .gdiAny _ _ _ _ _ => false
  | .m2mfAny _ _ _ _ _ => false
  | .ifcAny _ _ _ _ _ => false
  | .classUnknown _ _ _ _ _ => false
  | .eventBus _ => false
  | .eventFifo _ => false
  | .reset => false
  | .kick => false

end Sys2Proof
end

