-- ==== Sys2Proof/Decode.lean ====
section
/-! DEFINITION. Decoding a transaction record to the operation that opcode_table.json names for it, and the
encoder that gives an operation's record back (30_encoding.md R70 to R78); the pseudo-operations and the
textual notation (R81, R82). The decoder is total: every record has exactly one name (R73, R79). -/

namespace Sys2Proof

/-! ## Register-space decode -/

/-- The address of a register (10_state.md R10). -/
def MmioReg.addr : MmioReg → Word
  | .mcIntr => 0x000100
  | .stored .mcIntrEn => 0x000140
  | .stored .mcEnable => 0x000200
  | .stored .busIntr => 0x001100
  | .stored .busIntrEn => 0x001140
  | .stored .fifoIntr => 0x002100
  | .stored .fifoIntrEn => 0x002140
  | .stored .fifoRamht => 0x002210
  | .stored .fifoRamfc => 0x002214
  | .stored .fifoRamro => 0x002218
  | .stored .fifoMode => 0x002504
  | .stored .cache1Push1 => 0x003204
  | .stored .cache1Put => 0x003210
  | .stored .cache1DmaPush => 0x003220
  | .stored .cache1DmaInstance => 0x003224
  | .stored .cache1DmaPut => 0x003240
  | .stored .cache1DmaGet => 0x003244
  | .stored .cache1RefCnt => 0x003248
  | .stored .cache1Pull => 0x003250
  | .stored .cache1Semaphore => 0x003254

/-- The flat address list (10_state.md R10, 30_encoding.md R72). -/
def addressMap : List (Word × MmioReg) :=
  [(0x000100, .mcIntr),
   (0x000140, .stored .mcIntrEn),
   (0x000200, .stored .mcEnable),
   (0x001100, .stored .busIntr),
   (0x001140, .stored .busIntrEn),
   (0x002100, .stored .fifoIntr),
   (0x002140, .stored .fifoIntrEn),
   (0x002210, .stored .fifoRamht),
   (0x002214, .stored .fifoRamfc),
   (0x002218, .stored .fifoRamro)] ++
  [(0x002504, .stored .fifoMode),
   (0x003204, .stored .cache1Push1),
   (0x003210, .stored .cache1Put),
   (0x003220, .stored .cache1DmaPush),
   (0x003224, .stored .cache1DmaInstance),
   (0x003240, .stored .cache1DmaPut),
   (0x003244, .stored .cache1DmaGet),
   (0x003248, .stored .cache1RefCnt),
   (0x003250, .stored .cache1Pull),
   (0x003254, .stored .cache1Semaphore)]

/-- The register selected by an address: an exact match of all 32 bits against the twenty addresses
(30_encoding.md R72). -/
def regAt (addr : Word) : Option MmioReg := addressMap.lookup addr

/-- The banks of 30_encoding.md R72. -/
inductive Bank
  | masterControl | bus | fifo | cache1
deriving DecidableEq, Repr

/-- The bank selector, address bits 23 to 12 (30_encoding.md R72). -/
def bankOf (addr : Word) : Option Bank :=
  match (addr.extractLsb' 12 12).toNat with
  | 0x000 => some .masterControl
  | 0x001 => some .bus
  | 0x002 => some .fifo
  | 0x003 => some .cache1
  | _ => none

/-- The register at an offset, address bits 11 to 0, of a bank (30_encoding.md R72). -/
def Bank.regAtOffset (b : Bank) (offset : Nat) : Option MmioReg :=
  match b, offset with
  | .masterControl, 0x100 => some .mcIntr
  | .masterControl, 0x140 => some (.stored .mcIntrEn)
  | .masterControl, 0x200 => some (.stored .mcEnable)
  | .bus, 0x100 => some (.stored .busIntr)
  | .bus, 0x140 => some (.stored .busIntrEn)
  | .fifo, 0x100 => some (.stored .fifoIntr)
  | .fifo, 0x140 => some (.stored .fifoIntrEn)
  | .fifo, 0x210 => some (.stored .fifoRamht)
  | .fifo, 0x214 => some (.stored .fifoRamfc)
  | .fifo, 0x218 => some (.stored .fifoRamro)
  | .fifo, 0x504 => some (.stored .fifoMode)
  | .cache1, 0x204 => some (.stored .cache1Push1)
  | .cache1, 0x210 => some (.stored .cache1Put)
  | .cache1, 0x220 => some (.stored .cache1DmaPush)
  | .cache1, 0x224 => some (.stored .cache1DmaInstance)
  | .cache1, 0x240 => some (.stored .cache1DmaPut)
  | .cache1, 0x244 => some (.stored .cache1DmaGet)
  | .cache1, 0x248 => some (.stored .cache1RefCnt)
  | .cache1, 0x250 => some (.stored .cache1Pull)
  | .cache1, 0x254 => some (.stored .cache1Semaphore)
  | _, _ => none

/-- The register selected by bank selector and offset, bits 31 to 24 being 0 (30_encoding.md R72). -/
def regAtBanked (addr : Word) : Option MmioReg :=
  if addr.extractLsb' 24 8 = 0 then
    (bankOf addr).bind fun b => b.regAtOffset (addr.extractLsb' 0 12).toNat
  else none

/-- The read operation of a register (40_register_frontend.md R90). -/
def MmioReg.readRow : MmioReg → Instr
  | .mcIntr => .rdMcIntr
  | .stored .mcIntrEn => .rdMcIntrEn
  | .stored .mcEnable => .rdMcEnable
  | .stored .busIntr => .rdBusIntr
  | .stored .busIntrEn => .rdBusIntrEn
  | .stored .fifoIntr => .rdFifoIntr
  | .stored .fifoIntrEn => .rdFifoIntrEn
  | .stored .fifoRamht => .rdFifoRamht
  | .stored .fifoRamfc => .rdFifoRamfc
  | .stored .fifoRamro => .rdFifoRamro
  | .stored .fifoMode => .rdFifoMode
  | .stored .cache1Push1 => .rdCache1Push1
  | .stored .cache1Put => .rdCache1Put
  | .stored .cache1DmaPush => .rdCache1DmaPush
  | .stored .cache1DmaInstance => .rdCache1DmaInstance
  | .stored .cache1DmaPut => .rdCache1DmaPut
  | .stored .cache1DmaGet => .rdCache1DmaGet
  | .stored .cache1RefCnt => .rdCache1RefCnt
  | .stored .cache1Pull => .rdCache1Pull
  | .stored .cache1Semaphore => .rdCache1Semaphore

/-- The write operation of a register (40_register_frontend.md R91). -/
def MmioReg.writeRow (data : Word) : MmioReg → Instr
  | .mcIntr => .wrMcIntr data
  | .stored .mcIntrEn => .wrMcIntrEn data
  | .stored .mcEnable => .wrMcEnable data
  | .stored .busIntr => .wrBusIntr data
  | .stored .busIntrEn => .wrBusIntrEn data
  | .stored .fifoIntr => .wrFifoIntr data
  | .stored .fifoIntrEn => .wrFifoIntrEn data
  | .stored .fifoRamht => .wrFifoRamht data
  | .stored .fifoRamfc => .wrFifoRamfc data
  | .stored .fifoRamro => .wrFifoRamro data
  | .stored .fifoMode => .wrFifoMode data
  | .stored .cache1Push1 => .wrCache1Push1 data
  | .stored .cache1Put => .wrCache1Put data
  | .stored .cache1DmaPush => .wrCache1DmaPush data
  | .stored .cache1DmaInstance => .wrCache1DmaInstance data
  | .stored .cache1DmaPut => .wrCache1DmaPut data
  | .stored .cache1DmaGet => .wrCache1DmaGet data
  | .stored .cache1RefCnt => .wrCache1RefCnt data
  | .stored .cache1Pull => .wrCache1Pull data
  | .stored .cache1Semaphore => .wrCache1Semaphore data

/-- A register-space read is decoded by size, then range, then address (30_encoding.md R73). -/
def decodeRead (addr : Word) (size : Nat) : Instr :=
  if size ≠ 4 then .rdBadsize addr size
  else if mmioSize ≤ addr.toNat then .rdOor addr
  else match regAt addr with
    | some r => r.readRow
    | none => .rdUnknown addr

/-- A register-space write is decoded by size, then range, then address (30_encoding.md R73). -/
def decodeWrite (addr : Word) (size : Nat) (data : Word) : Instr :=
  if size ≠ 4 then .wrBadsize addr size data
  else if mmioSize ≤ addr.toNat then .wrOor addr data
  else match regAt addr with
    | some r => r.writeRow data
    | none => .wrUnknown addr data

/-! ## Command decode -/

/-- The channel that a 32-bit channel id names, if it is below 32 (42_command_dispatcher.md R151). -/
def chanOf (chid : Word) : Option ChanId :=
  if h : chid.toNat < 32 then some ⟨chid.toNat, h⟩ else none

/-- The subchannel that a 32-bit subchannel id names, if it is below 8 (42_command_dispatcher.md R151). -/
def subOf (subc : Word) : Option SubId :=
  if h : subc.toNat < 8 then some ⟨subc.toNat, h⟩ else none

/-- The row of the 3D method table that a decoded method code selects (43_d3d_methods.md R170). -/
def kelvinRow (via : Entry) (chid : ChanId) (method param : Word) : Option D3DMethod → Instr
  | some .semaphoreObject => .kelvinSemaphoreObject via chid method param
  | some .semaphoreOffset => .kelvinSemaphoreOffset via chid method param
  | some .clipHorizontal => .kelvinClipHorizontal via chid method param
  | some .clipVertical => .kelvinClipVertical via chid method param
  | some .surfaceFormat => .kelvinSurfaceFormat via chid method param
  | some .surfacePitch => .kelvinSurfacePitch via chid method param
  | some .surfaceColorOffset => .kelvinSurfaceColorOffset via chid method param
  | some .clearSurface => .kelvinClearSurface via chid method param
  | some .colorClearValue => .kelvinColorClearValue via chid method param
  | some .semaphoreAcquire => .kelvinSemaphoreAcquire via chid method param
  | none => .kelvinUnknown via chid method param

/-- The row of the 2D-surface engine that a decoded method code selects
(42_command_dispatcher.md R154 to R158). -/
def surf2dRow (chid : ChanId) (subc : SubId) (cls method param : Word) : Option Surf2DMethod → Instr
  | some .format => .surf2dFormat chid subc cls method param
  | some .pitch => .surf2dPitch chid subc cls method param
  | some .offsetSrc => .surf2dOffsetSrc chid subc cls method param
  | some .offsetDst => .surf2dOffsetDst chid subc cls method param
  | none => .surf2dUnknown chid subc cls method param

/-- The row that a `CMD` record resolves to: channel, then subchannel, then class, then method
(30_encoding.md R74). -/
def resolveCmd (c : Config) (chid subc cls method param : Word) : Instr :=
  match chanOf chid with
  | none => .cmdBadchid chid subc cls method param
  | some ch =>
    match subOf subc with
    | none => .cmdBadsubc ch subc cls method param
    | some sc =>
      match c.classOf cls with
      | some .kelvin => kelvinRow (.cmd sc cls) ch method param (c.d3dMethodOf method)
      | some .surf2d => surf2dRow ch sc cls method param (c.surf2dMethodOf method)
      | some .gdi => .gdiAny ch sc cls method param
      | some .m2mf => .m2mfAny ch sc cls method param
      | some .ifc => .ifcAny ch sc cls method param
      | none => .classUnknown ch sc cls method param

/-- The row that a `D3DCMD` record resolves to: channel, then method (30_encoding.md R74). A record whose
channel id is not below 32 has no row but the entry point itself, whose check fails it
(42_command_dispatcher.md R166). -/
def resolveD3dcmd (c : Config) (chid method param : Word) : Instr :=
  match chanOf chid with
  | none => .d3dcmd chid method param
  | some ch => kelvinRow .d3dcmd ch method param (c.d3dMethodOf method)

/-! ## The decoder and the encoder -/

/-- The operation that a transaction record names under the decode functions of configuration `c`
(30_encoding.md R70, R73, R74, R78). -/
def decode (c : Config) : Transaction → Instr
  | .mmioRead addr size => decodeRead addr size
  | .mmioWrite addr size data => decodeWrite addr size data
  | .raminRead addr size => .raminRd addr size
  | .raminWrite addr size data => .raminWr addr size data
  | .linRead object offset => .read32 object offset
  | .linWrite object offset value => .write32 object offset value
  | .cmd chid subc cls method param => resolveCmd c chid subc cls method param
  | .d3dcmd chid method param => resolveD3dcmd c chid method param
  | .evtBus mask => .eventBus mask
  | .evtFifo mask => .eventFifo mask
  | .rst => .reset

/-- The entry point that a command record selects by its format alone (30_encoding.md R78). -/
def entryPoint : Transaction → Option Instr
  | .cmd chid subc cls method param => some (.cmd chid subc cls method param)
  | .d3dcmd chid method param => some (.d3dcmd chid method param)
  | .mmioRead _ _ => none
  | .mmioWrite _ _ _ => none
  | .raminRead _ _ => none
  | .raminWrite _ _ _ => none
  | .linRead _ _ => none
  | .linWrite _ _ _ => none
  | .evtBus _ => none
  | .evtFifo _ => none
  | .rst => none

/-- A channel id as the 32-bit field of a record (30_encoding.md R70). -/
def ChanId.field (c : ChanId) : Word := BitVec.ofNat 32 c.val

/-- A subchannel id as the 32-bit field of a record (30_encoding.md R70). -/
def SubId.field (s : SubId) : Word := BitVec.ofNat 32 s.val

/-- The record of a 3D method by its entry (30_encoding.md R70). -/
def Entry.record (via : Entry) (chid : ChanId) (method param : Word) : Transaction :=
  match via with
  | .cmd subc cls => .cmd (ChanId.field chid) (SubId.field subc) cls method param
  | .d3dcmd => .d3dcmd (ChanId.field chid) method param

/-- The `CMD` record of a row that keeps a checked channel and subchannel (30_encoding.md R70). -/
def cmdRecord (chid : ChanId) (subc : SubId) (cls method param : Word) : Transaction :=
  .cmd (ChanId.field chid) (SubId.field subc) cls method param

/-- The transaction record that presents an operation; none for `KICK`, which no interface issues
(30_encoding.md R70, R78). -/
def encode : Instr → Option Transaction
  | .rdMcIntr => some (.mmioRead 0x000100 4)
  | .wrMcIntr data => some (.mmioWrite 0x000100 4 data)
  | .rdMcIntrEn => some (.mmioRead 0x000140 4)
  | .wrMcIntrEn data => some (.mmioWrite 0x000140 4 data)
  | .rdMcEnable => some (.mmioRead 0x000200 4)
  | .wrMcEnable data => some (.mmioWrite 0x000200 4 data)
  | .rdBusIntr => some (.mmioRead 0x001100 4)
  | .wrBusIntr data => some (.mmioWrite 0x001100 4 data)
  | .rdBusIntrEn => some (.mmioRead 0x001140 4)
  | .wrBusIntrEn data => some (.mmioWrite 0x001140 4 data)
  | .rdFifoIntr => some (.mmioRead 0x002100 4)
  | .wrFifoIntr data => some (.mmioWrite 0x002100 4 data)
  | .rdFifoIntrEn => some (.mmioRead 0x002140 4)
  | .wrFifoIntrEn data => some (.mmioWrite 0x002140 4 data)
  | .rdFifoRamht => some (.mmioRead 0x002210 4)
  | .wrFifoRamht data => some (.mmioWrite 0x002210 4 data)
  | .rdFifoRamfc => some (.mmioRead 0x002214 4)
  | .wrFifoRamfc data => some (.mmioWrite 0x002214 4 data)
  | .rdFifoRamro => some (.mmioRead 0x002218 4)
  | .wrFifoRamro data => some (.mmioWrite 0x002218 4 data)
  | .rdFifoMode => some (.mmioRead 0x002504 4)
  | .wrFifoMode data => some (.mmioWrite 0x002504 4 data)
  | .rdCache1Push1 => some (.mmioRead 0x003204 4)
  | .wrCache1Push1 data => some (.mmioWrite 0x003204 4 data)
  | .rdCache1Put => some (.mmioRead 0x003210 4)
  | .wrCache1Put data => some (.mmioWrite 0x003210 4 data)
  | .rdCache1DmaPush => some (.mmioRead 0x003220 4)
  | .wrCache1DmaPush data => some (.mmioWrite 0x003220 4 data)
  | .rdCache1DmaInstance => some (.mmioRead 0x003224 4)
  | .wrCache1DmaInstance data => some (.mmioWrite 0x003224 4 data)
  | .rdCache1DmaPut => some (.mmioRead 0x003240 4)
  | .wrCache1DmaPut data => some (.mmioWrite 0x003240 4 data)
  | .rdCache1DmaGet => some (.mmioRead 0x003244 4)
  | .wrCache1DmaGet data => some (.mmioWrite 0x003244 4 data)
  | .rdCache1RefCnt => some (.mmioRead 0x003248 4)
  | .wrCache1RefCnt data => some (.mmioWrite 0x003248 4 data)
  | .rdCache1Pull => some (.mmioRead 0x003250 4)
  | .wrCache1Pull data => some (.mmioWrite 0x003250 4 data)
  | .rdCache1Semaphore => some (.mmioRead 0x003254 4)
  | .wrCache1Semaphore data => some (.mmioWrite 0x003254 4 data)
  | .rdBadsize addr size => some (.mmioRead addr size)
  | .wrBadsize addr size data => some (.mmioWrite addr size data)
  | .rdOor addr => some (.mmioRead addr 4)
  | .wrOor addr data => some (.mmioWrite addr 4 data)
  | .rdUnknown addr => some (.mmioRead addr 4)
  | .wrUnknown addr data => some (.mmioWrite addr 4 data)
  | .raminRd addr size => some (.raminRead addr size)
  | .raminWr addr size data => some (.raminWrite addr size data)
  | .read32 object offset => some (.linRead object offset)
  | .write32 object offset value => some (.linWrite object offset value)
  | .cmd chid subc cls method param => some (.cmd chid subc cls method param)
  | .d3dcmd chid method param => some (.d3dcmd chid method param)
  | .cmdBadchid chid subc cls method param => some (.cmd chid subc cls method param)
  | .cmdBadsubc chid subc cls method param => some (.cmd (ChanId.field chid) subc cls method param)
  | .kelvinSemaphoreObject via chid method param => some (via.record chid method param)
  | .kelvinSemaphoreOffset via chid method param => some (via.record chid method param)
  | .kelvinClipHorizontal via chid method param => some (via.record chid method param)
  | .kelvinClipVertical via chid method param => some (via.record chid method param)
  | .kelvinSurfaceFormat via chid method param => some (via.record chid method param)
  | .kelvinSurfacePitch via chid method param => some (via.record chid method param)
  | .kelvinSurfaceColorOffset via chid method param => some (via.record chid method param)
  | .kelvinClearSurface via chid method param => some (via.record chid method param)
  | .kelvinColorClearValue via chid method param => some (via.record chid method param)
  | .kelvinSemaphoreAcquire via chid method param => some (via.record chid method param)
  | .kelvinUnknown via chid method param => some (via.record chid method param)
  | .surf2dFormat chid subc cls method param => some (cmdRecord chid subc cls method param)
  | .surf2dPitch chid subc cls method param => some (cmdRecord chid subc cls method param)
  | .surf2dOffsetSrc chid subc cls method param => some (cmdRecord chid subc cls method param)
  | .surf2dOffsetDst chid subc cls method param => some (cmdRecord chid subc cls method param)
  | .surf2dUnknown chid subc cls method param => some (cmdRecord chid subc cls method param)
  | .gdiAny chid subc cls method param => some (cmdRecord chid subc cls method param)
  | .m2mfAny chid subc cls method param => some (cmdRecord chid subc cls method param)
  | .ifcAny chid subc cls method param => some (cmdRecord chid subc cls method param)
  | .classUnknown chid subc cls method param => some (cmdRecord chid subc cls method param)
  | .eventBus mask => some (.evtBus mask)
  | .eventFifo mask => some (.evtFifo mask)
  | .reset => some .rst
  | .kick => none

/-! ## The table's words -/

/-- The record that a word of opcode_table.json stands for. `match` and `mask` apply to the `addr` field of
the `MMIO` format, and the table gives no other field a bit (30_encoding.md R78): the word is the
address of a 4-byte access, and with no bit for `dir` it is a read (log entry 1). None where the word
does not fit the 32-bit field. -/
def tableRecord (nbits w : Nat) : Option Transaction :=
  if w % 2 ^ nbits < 2 ^ 32 then some (.mmioRead (BitVec.ofNat 32 (w % 2 ^ nbits)) 4) else none

/-- The operation the decoder reads from a word of opcode_table.json (30_encoding.md R78; log entry 1). -/
def decodeTableWord (nbits w : Nat) : Option Instr :=
  (tableRecord nbits w).map (decode Config.launch)

/-! ## Pseudo-operations and textual notation -/

/-- `ack.mc` (30_encoding.md R82). -/
def ackMc (bits : Word) : Transaction := .mmioWrite 0x000100 4 bits

/-- `ack.bus` (30_encoding.md R82). -/
def ackBus (bits : Word) : Transaction := .mmioWrite 0x001100 4 bits

/-- `ack.fifo` (30_encoding.md R82). -/
def ackFifo (bits : Word) : Transaction := .mmioWrite 0x002100 4 bits

/-- `push.enable` (30_encoding.md R82). -/
def pushEnable (chid : Word) : Transaction := .mmioWrite 0x003204 4 (chid ||| 1)

/-- `kick` (30_encoding.md R82). -/
def kickPut (put : Word) : Transaction := .mmioWrite 0x003210 4 put

/-- Operands of a line, each after a comma and a space (30_encoding.md R81). -/
def operands (ns : List Nat) : String := String.intercalate ", " (ns.map fun n => toString n)

/-- The mnemonic width of a register-space access of a size that the notation has (30_encoding.md R81). -/
def sizeSuffix : Nat → Option String
  | 1 => some "8"
  | 2 => some "16"
  | 3 => some "24"
  | 4 => some "32"
  | _ => none

/-- The line of text of a transaction, numbers in decimal; none where the notation has no line for it
(30_encoding.md R81; log entry 21). -/
def Transaction.line : Transaction → Option String
  | .mmioRead addr size => (sizeSuffix size).map fun b => "rd" ++ b ++ " " ++ operands [addr.toNat]
  | .mmioWrite addr size data =>
    (sizeSuffix size).map fun b => "wr" ++ b ++ " " ++ operands [addr.toNat, data.toNat]
  | .raminRead addr 1 => some ("ramin.rd8 " ++ operands [addr])
  | .raminRead addr 4 => some ("ramin.rd32 " ++ operands [addr])
  | .raminRead addr size => some ("ramin.rd " ++ operands [addr, size])
  | .raminWrite addr 1 data => some ("ramin.wr8 " ++ operands [addr, data.toNat])
  | .raminWrite addr 4 data => some ("ramin.wr32 " ++ operands [addr, data.toNat])
  | .raminWrite addr size data => some ("ramin.wr " ++ operands [addr, size, data.toNat])
  | .linRead object offset => some ("read32 " ++ operands [object.toNat, offset.toNat])
  | .linWrite object offset value =>
    some ("write32 " ++ operands [object.toNat, offset.toNat, value.toNat])
  | .cmd chid subc cls method param =>
    some ("cmd " ++ operands [chid.toNat, subc.toNat, cls.toNat, method.toNat, param.toNat])
  | .d3dcmd chid method param => some ("d3d " ++ operands [chid.toNat, method.toNat, param.toNat])
  | .evtBus mask => some ("event.bus " ++ operands [mask.toNat])
  | .evtFifo mask => some ("event.fifo " ++ operands [mask.toNat])
  | .rst => some "reset"

end Sys2Proof
end

