-- ==== Sys2Proof/Machine/State.lean ====
section
/-! DEFINITION. The state of the machine: the device tuple of 10_state.md R44, plain data, with the three
fields the model adds around it (configuration, the environment's list, the last result), the reasons a
step can stop, and the state after reset. -/

namespace Sys2Proof.Machine

/-- The nineteen stored registers of the register file, 32 bits each (10_state.md R10, R12 to R30). -/
structure RegFile where
  /-- `MC_INTR_EN`, 0x000140; 10_state.md R12. -/
  mcIntrEn : Word
  /-- `MC_ENABLE`, 0x000200; 10_state.md R13. -/
  mcEnable : Word
  /-- `BUS_INTR`, 0x001100; 10_state.md R14. -/
  busIntr : Word
  /-- `BUS_INTR_EN`, 0x001140; 10_state.md R15. -/
  busIntrEn : Word
  /-- `FIFO_INTR`, 0x002100; 10_state.md R16. -/
  fifoIntr : Word
  /-- `FIFO_INTR_EN`, 0x002140; 10_state.md R17. -/
  fifoIntrEn : Word
  /-- `FIFO_RAMHT`, 0x002210; 10_state.md R18. -/
  fifoRamht : Word
  /-- `FIFO_RAMFC`, 0x002214; 10_state.md R19. -/
  fifoRamfc : Word
  /-- `FIFO_RAMRO`, 0x002218; 10_state.md R20. -/
  fifoRamro : Word
  /-- `FIFO_MODE`, 0x002504; 10_state.md R21. -/
  fifoMode : Word
  /-- `CACHE1_PUSH1`, 0x003204; 10_state.md R22. -/
  cache1Push1 : Word
  /-- `CACHE1_PUT`, 0x003210; 10_state.md R23. -/
  cache1Put : Word
  /-- `CACHE1_DMA_PUSH`, 0x003220; 10_state.md R24. -/
  cache1DmaPush : Word
  /-- `CACHE1_DMA_INSTANCE`, 0x003224; 10_state.md R25. -/
  cache1DmaInstance : Word
  /-- `CACHE1_DMA_PUT`, 0x003240; 10_state.md R26. -/
  cache1DmaPut : Word
  /-- `CACHE1_DMA_GET`, 0x003244; 10_state.md R27. -/
  cache1DmaGet : Word
  /-- `CACHE1_REF_CNT`, 0x003248; 10_state.md R28. -/
  cache1RefCnt : Word
  /-- `CACHE1_PULL`, 0x003250; 10_state.md R29. -/
  cache1Pull : Word
  /-- `CACHE1_SEMAPHORE`, 0x003254; 10_state.md R30. -/
  cache1Semaphore : Word
deriving DecidableEq, Repr

/-- The D3DState of a channel (10_state.md R35). -/
structure D3DState where
  semaphoreObj : Word
  semaphoreOffset : Word
  clipHorizontal : Word
  clipVertical : Word
  surfaceFormat : Word
  bytesPerPixel : Word
  surfacePitch : Word
  surfaceColorOffset : Word
  clearValue : Word
  clearSurface : Word
deriving DecidableEq, Repr

/-- The Surf2DState of a channel (10_state.md R36). -/
structure Surf2DState where
  format : Word
  pitch : Word
  offsetSrc : Word
  offsetDst : Word
deriving DecidableEq, Repr

/-- One channel: eight subchannel bindings and the two embedded engine states (10_state.md R33, R34). -/
structure Channel where
  bind : Vector Word 8
  d3d : D3DState
  surf2d : Surf2DState
deriving DecidableEq, Repr

/-- The output events (10_state.md R47). -/
inductive OutEvent
  /-- The level driven to the interrupt-line sink. -/
  | irqLevel (b : Bool)
  /-- The full-redraw signal to the display-refresh sink; no payload. -/
  | fullRedraw
deriving DecidableEq, Repr

/-- The bytes of the memory region that something has written, by address, strictly rising
(10_state.md R39). An address that is not listed has no value here; what a read of it gives is the free
value `Config.initialByte` (log entry 7). -/
abbrev Memory := List Host.Cell

/-- The device tuple (10_state.md R44). -/
structure Device where
  /-- The register file. -/
  reg : RegFile
  /-- The channel table (R33). -/
  chan : Vector Channel 32
  /-- The memory region (R39). -/
  mem : Memory
  /-- The level last driven on the interrupt line (R46). -/
  irq : Bool
  /-- The output trace, oldest first (R47). -/
  out : List OutEvent
deriving DecidableEq, Repr

/-- What a transaction returns to its caller (00_scope.md R8 `return v`, 30_encoding.md R70). -/
inductive Ret
  /-- A write, an event or a reset returns nothing. -/
  | none
  /-- A read returns a 32-bit value. -/
  | word (v : Word)
  /-- A dispatch returns its success (42_command_dispatcher.md R168). -/
  | success (b : Bool)
deriving DecidableEq, Repr

/-- The machine: the device, the parameters it was built with, and the environment's side of its
interfaces. -/
structure State where
  /-- The device (10_state.md R44). -/
  dev : Device
  /-- The parameters of 00_scope.md R5, fixed for the life of the device (log entry 4). -/
  cfg : Config
  /-- The MODEL's own field: the transactions presented and not yet taken, next first
  (00_scope.md R6, 10_state.md R48; log entry 2). -/
  env : List Transaction
  /-- The MODEL's own field: the result last returned to a caller (log entry 3). -/
  ret : Ret
deriving DecidableEq, Repr

/-- The faults of the machine: none. "The block raises no synchronous exception"
(60_exceptions.md R210), so the type is empty (log entry 18). -/
inductive Fault
deriving DecidableEq, Repr

/-- The reasons to refuse a step. -/
inductive Refusal
  /-- An operation that has no meaning in the model yet; raised by an arm of `exec` alone, and by none
  now. Safe: the model stops where the device goes on. -/
  | notModelled (mnemonic : String)
deriving DecidableEq, Repr

/-- The D3DState after reset: all fields 0 but `bytes_per_pixel`, which is 1 (10_state.md R35, R37). -/
def D3DState.initial : D3DState where
  semaphoreObj := 0
  semaphoreOffset := 0
  clipHorizontal := 0
  clipVertical := 0
  surfaceFormat := 0
  bytesPerPixel := 1
  surfacePitch := 0
  surfaceColorOffset := 0
  clearValue := 0
  clearSurface := 0

/-- The Surf2DState after reset (10_state.md R36, R37). -/
def Surf2DState.initial : Surf2DState where
  format := 0
  pitch := 0
  offsetSrc := 0
  offsetDst := 0

/-- A channel after reset (10_state.md R37). -/
def Channel.initial : Channel where
  bind := Vector.replicate 8 0
  d3d := D3DState.initial
  surf2d := Surf2DState.initial

/-- The register file after reset: `MC_ENABLE` and `FIFO_MODE` are 1, the other seventeen 0
(10_state.md R42). -/
def RegFile.initial : RegFile where
  mcIntrEn := 0
  mcEnable := 1
  busIntr := 0
  busIntrEn := 0
  fifoIntr := 0
  fifoIntrEn := 0
  fifoRamht := 0
  fifoRamfc := 0
  fifoRamro := 0
  fifoMode := 1
  cache1Push1 := 0
  cache1Put := 0
  cache1DmaPush := 0
  cache1DmaInstance := 0
  cache1DmaPut := 0
  cache1DmaGet := 0
  cache1RefCnt := 0
  cache1Pull := 0
  cache1Semaphore := 0

/-- The launch state: the reset state of 10_state.md R42 with the memory arbitrary and the trace empty
(R43). Nothing is listed in the memory (log entry 7), no transaction has been presented (log entry 2),
no result has been returned (log entry 3), and the open parameters are opaque (log entry 4). -/
def State.reset : State where
  dev :=
    { reg := RegFile.initial
      chan := Vector.replicate 32 Channel.initial
      mem := []
      irq := false
      out := [] }
  cfg := Config.launch
  env := []
  ret := .none

end Sys2Proof.Machine

namespace Sys2Proof

/-- A replacement `KickFetch`, no body: any function of the device to a finite list of 3D methods, each with
its parameter (00_scope.md R5, 42_command_dispatcher.md R163, 93_implementation_defined.md U5;
log entry 9). -/
opaque Config.pluggedFetch (d : Machine.Device) : List (D3DMethod × Word)

end Sys2Proof
end

