-- ==== Sys2Proof/Machine/Operands.lean ====
section
/-! DEFINITION. Operand extraction: the only places where a field is cut out of a wider value
(30_encoding.md R77). The two extractions from `CACHE1_PUSH1` are kept apart, so that a corrected reading
of their overlap changes them alone (93_implementation_defined.md U9). -/

namespace Sys2Proof.Machine

/-- `PUSH_EN`, bit 0 of `CACHE1_PUSH1` (10_state.md R22). -/
def pushEnabled (f : RegFile) : Bool := f.cache1Push1.getLsbD 0

/-- `CHID`, bits 4:0 of `CACHE1_PUSH1` (10_state.md R22, 42_command_dispatcher.md R164). -/
def kickChid (f : RegFile) : Word := (f.cache1Push1.extractLsb' 0 5).setWidth 32

/-- Bit 0 of a value written to `MC_INTR`: clear the bus latch (10_state.md R11). -/
def acksBus (data : Word) : Bool := data.getLsbD 0

/-- Bit 8 of a value written to `MC_INTR`: clear the FIFO latch (10_state.md R11). -/
def acksFifo (data : Word) : Bool := data.getLsbD 8

/-- The low nibble of a `SURFACE_FORMAT` parameter (43_d3d_methods.md R175). -/
def formatNibble (param : Word) : BitVec 4 := param.extractLsb' 0 4

/-- Byte `k` of a 32-bit value, `(v >> 8k)[7:0]` (20_memory.md R51). -/
def byteOf (v : Word) (k : Nat) : Byte := v.extractLsb' (8 * k) 8

/-- Which byte of an `n`-byte value lies at offset `i` from the access's address (20_memory.md R51). -/
def bytePos (o : ByteOrder) (n i : Nat) : Nat :=
  match o with
  | .little => i
  | .big => n - 1 - i

end Sys2Proof.Machine
end

