-- ==== Sys2Proof/Machine/Flags.lean ====
section
/-! DEFINITION. The block has no flags and no condition codes (10_state.md R49). What is computed from
status registers is the interrupt aggregator: the aggregate word and the line
(41_interrupt_aggregator.md R140 to R142), and the same line seen as a two-level OR-tree (R146). -/

namespace Sys2Proof.Machine

/-- The aggregate word: bit 0 for the bus pair, bit 8 for the FIFO pair, every other bit 0
(41_interrupt_aggregator.md R141). -/
def aggregate (f : RegFile) : Word :=
  (if f.busIntr &&& f.busIntrEn ≠ 0 then 0x00000001 else 0) |||
  (if f.fifoIntr &&& f.fifoIntrEn ≠ 0 then 0x00000100 else 0)

/-- The line: asserted iff the aggregate word masked by `MC_INTR_EN` is not 0
(41_interrupt_aggregator.md R142). -/
def line (f : RegFile) : Bool := (aggregate f &&& f.mcIntrEn) != 0

/-- A first-level gate of the OR-tree: 32 AND gates into one OR (41_interrupt_aggregator.md R146). -/
def bankGate (latch enable : Word) : Bool :=
  (List.range 32).any fun i => latch.getLsbD i && enable.getLsbD i

/-- The OR-tree: each first-level output ANDed with its bit of `MC_INTR_EN`, into one OR
(41_interrupt_aggregator.md R146). -/
def lineTree (f : RegFile) : Bool :=
  (bankGate f.busIntr f.busIntrEn && f.mcIntrEn.getLsbD 0) ||
  (bankGate f.fifoIntr f.fifoIntrEn && f.mcIntrEn.getLsbD 8)

end Sys2Proof.Machine
end

