-- ==== Sys2Proof/Machine/Ops.lean ====
section
/-! DEFINITION. The named operations over the register file, the channel table, the memory region and the
two outputs, and how a transaction ends. The block takes no exception and returns from none
(60_exceptions.md R210, R217, R218): the one shared operation in that place is `Device.updateIrq`, which
drives the interrupt line. -/

namespace Sys2Proof.Machine

/-- The outcome of a step or of an operation. -/
abbrev StepResult := Host.Outcome State Fault Refusal

/-! ## Registers -/

/-- The stored value of a register (00_scope.md R8 `reg.NAME`). -/
def RegFile.get (f : RegFile) : Reg → Word
  | .mcIntrEn => f.mcIntrEn
  | .mcEnable => f.mcEnable
  | .busIntr => f.busIntr
  | .busIntrEn => f.busIntrEn
  | .fifoIntr => f.fifoIntr
  | .fifoIntrEn => f.fifoIntrEn
  | .fifoRamht => f.fifoRamht
  | .fifoRamfc => f.fifoRamfc
  | .fifoRamro => f.fifoRamro
  | .fifoMode => f.fifoMode
  | .cache1Push1 => f.cache1Push1
  | .cache1Put => f.cache1Put
  | .cache1DmaPush => f.cache1DmaPush
  | .cache1DmaInstance => f.cache1DmaInstance
  | .cache1DmaPut => f.cache1DmaPut
  | .cache1DmaGet => f.cache1DmaGet
  | .cache1RefCnt => f.cache1RefCnt
  | .cache1Pull => f.cache1Pull
  | .cache1Semaphore => f.cache1Semaphore

/-- The write of a register (00_scope.md R8 `reg.NAME <- v`). -/
def RegFile.set (f : RegFile) (v : Word) : Reg → RegFile
  | .mcIntrEn => { f with mcIntrEn := v }
  | .mcEnable => { f with mcEnable := v }
  | .busIntr => { f with busIntr := v }
  | .busIntrEn => { f with busIntrEn := v }
  | .fifoIntr => { f with fifoIntr := v }
  | .fifoIntrEn => { f with fifoIntrEn := v }
  | .fifoRamht => { f with fifoRamht := v }
  | .fifoRamfc => { f with fifoRamfc := v }
  | .fifoRamro => { f with fifoRamro := v }
  | .fifoMode => { f with fifoMode := v }
  | .cache1Push1 => { f with cache1Push1 := v }
  | .cache1Put => { f with cache1Put := v }
  | .cache1DmaPush => { f with cache1DmaPush := v }
  | .cache1DmaInstance => { f with cache1DmaInstance := v }
  | .cache1DmaPut => { f with cache1DmaPut := v }
  | .cache1DmaGet => { f with cache1DmaGet := v }
  | .cache1RefCnt => { f with cache1RefCnt := v }
  | .cache1Pull => { f with cache1Pull := v }
  | .cache1Semaphore => { f with cache1Semaphore := v }

/-- The device with a register written: all 32 bits, verbatim (10_state.md R10). -/
def Device.writeReg (d : Device) (r : Reg) (v : Word) : Device := { d with reg := d.reg.set v r }

/-- The device with latch bits cleared, `status &= ~written_value` (10_state.md R14, R16). -/
def Device.clearLatch (d : Device) (r : Reg) (v : Word) : Device := d.writeReg r (d.reg.get r &&& ~~~v)

/-- The device with latch bits set by an internal event (41_interrupt_aggregator.md R144, R145). -/
def Device.setLatch (d : Device) (r : Reg) (mask : Word) : Device := d.writeReg r (d.reg.get r ||| mask)

/-- The device with a whole latch cleared if the acknowledge says so (40_register_frontend.md R101). -/
def Device.ackLatch (d : Device) (r : Reg) (ack : Bool) : Device := if ack then d.writeReg r 0 else d

/-! ## Outputs -/

/-- An output event appended to the trace (00_scope.md R8 `emit E`, 10_state.md R47). -/
def Device.emit (d : Device) (e : OutEvent) : Device := { d with out := d.out ++ [e] }

/-- `UpdateIrq()`: recompute the line, drive it, and record the level driven, changed or not
(41_interrupt_aggregator.md R142). -/
def Device.updateIrq (d : Device) : Device :=
  { d with irq := line d.reg }.emit (.irqLevel (line d.reg))

/-! ## The channel table -/

/-- Channel `c` (00_scope.md R8 `chan[c]`). -/
def Device.channel (d : Device) (c : ChanId) : Channel := d.chan.get c

/-- The device with channel `c` replaced. -/
def Device.setChannel (d : Device) (c : ChanId) (ch : Channel) : Device :=
  { d with chan := d.chan.set c.val ch c.isLt }

/-- The device with the D3DState of channel `c` replaced. -/
def Device.setD3d (d : Device) (c : ChanId) (x : D3DState) : Device :=
  d.setChannel c { d.channel c with d3d := x }

/-- The device with the Surf2DState of channel `c` replaced. -/
def Device.setSurf2d (d : Device) (c : ChanId) (x : Surf2DState) : Device :=
  d.setChannel c { d.channel c with surf2d := x }

/-! ## The memory region -/

/-- The byte listed at an address, if something has written it. -/
def Memory.get? : Memory → Nat → Option Byte
  | [], _ => none
  | (b, w) :: m, a => if a = b then some w else Memory.get? m a

/-- The byte at an address (00_scope.md R8 `mem[a]`): the one written last, or the free value of a byte
that nothing has written (20_memory.md R60; log entry 7). -/
def Memory.read (m : Memory) (a : Nat) : Byte := (m.get? a).getD (Config.initialByte a)

/-- The memory with one byte written, its entries kept in rising order of address. -/
def Memory.put : Memory → Nat → Byte → Memory
  | [], a, v => [(a, v)]
  | (b, w) :: m, a, v =>
    if a < b then (a, v) :: (b, w) :: m
    else if a = b then (a, v) :: m
    else (b, w) :: Memory.put m a v

/-- The canonical form: addresses strictly rising. An address that is not listed has no value, so no entry
can equal it (log entry 7). -/
def Memory.wf : Memory → Bool
  | [] => true
  | [_] => true
  | (a, _) :: (b, w) :: m => decide (a < b) && Memory.wf ((b, w) :: m)

/-- Every listed address lies in a region of the given size (44_memory_shim.md R196). -/
def Memory.within (size : Nat) (m : Memory) : Bool := m.all fun cell => decide (cell.1 < size)

/-- `MemRead(addr, n)` (20_memory.md R51): the sum over the bytes, each at its place in the order. -/
def Memory.readBytes (o : ByteOrder) (m : Memory) (addr n : Nat) : Word :=
  BitVec.ofNat 32 (((List.range n).map fun i => (m.read (addr + i)).toNat * 256 ^ bytePos o n i).sum)

/-- `MemWrite(addr, n, v)` (20_memory.md R51): byte `(v >> 8k)[7:0]` to each place. -/
def Memory.writeBytes (o : ByteOrder) (m : Memory) (addr n : Nat) (v : Word) : Memory :=
  (List.range n).foldl (fun m i => m.put (addr + i) (byteOf v (bytePos o n i))) m

/-- The linear address of an object access, on unbounded naturals (44_memory_shim.md R190). -/
def linAddress (object offset : Word) : Nat := object.toNat + offset.toNat

/-- A linear 4-byte access is allowed iff it ends inside the region (44_memory_shim.md R190). -/
def linAllowed (c : Config) (object offset : Word) : Bool :=
  decide (linAddress object offset + 4 ≤ c.regionSize)

/-- `RaminAddr(a, n)` (20_memory.md R57): the place of a window access in the region. -/
def raminAddr (c : Config) (a n : Nat) : Option Nat :=
  if a + n ≤ c.raminSize then some (c.regionSize - c.raminSize + a) else none

/-- The sizes that act on the instance-memory window (44_memory_shim.md R193, R197). -/
def raminSizeOk (size : Nat) : Bool := size == 1 || size == 4

/-- `Read32(object, offset)` (44_memory_shim.md R191). -/
def Device.read32 (c : Config) (d : Device) (object offset : Word) : Word :=
  if linAllowed c object offset then d.mem.readBytes c.byteOrder (linAddress object offset) 4 else 0

/-- `Write32(object, offset, value)` (44_memory_shim.md R192). -/
def Device.write32 (c : Config) (d : Device) (object offset value : Word) : Device :=
  if linAllowed c object offset then
    { d with mem := d.mem.writeBytes c.byteOrder (linAddress object offset) 4 value }
  else d

/-- `RaminRead(addr, size)` (44_memory_shim.md R193). -/
def Device.raminRead (c : Config) (d : Device) (addr size : Nat) : Word :=
  if raminSizeOk size then
    match raminAddr c addr size with
    | some t => d.mem.readBytes c.byteOrder t size
    | none => 0
  else 0

/-- `RaminWrite(addr, size, data)` (44_memory_shim.md R194). -/
def Device.raminWrite (c : Config) (d : Device) (addr size : Nat) (data : Word) : Device :=
  if raminSizeOk size then
    match raminAddr c addr size with
    | some t => { d with mem := d.mem.writeBytes c.byteOrder t size data }
    | none => d
  else d

/-- What the display path sees at a byte of the region, between any two transactions; it writes nothing
(20_memory.md R63; log entry 16). -/
def Device.displayRead (c : Config) (d : Device) (a : Nat) : Option Byte :=
  if a < c.regionSize then some (d.mem.read a) else none

/-! ## How a transaction ends -/

/-- The transaction is complete: the device it leaves and the result it returns. -/
def State.finish (s : State) (d : Device) (r : Ret) : StepResult := .next { s with dev := d, ret := r }

/-- A read is complete: the value it returns, the device untouched (20_memory.md R55). -/
def State.answer (s : State) (v : Word) : StepResult := s.finish s.dev (.word v)

/-- A write is complete: it returns nothing. -/
def State.wrote (s : State) (d : Device) : StepResult := s.finish d .none

/-- A dispatch is complete: its success is returned to the caller and stored nowhere else
(42_command_dispatcher.md R168). -/
def State.dispatched (s : State) (r : Device × Bool) : StepResult := s.finish r.1 (.success r.2)

end Sys2Proof.Machine
end

