-- ==== Sys2Proof/Machine/Aggregator.lean ====
section
/-! DEFINITION. The event inputs of the interrupt aggregator (41_interrupt_aggregator.md). -/

namespace Sys2Proof.Machine

/-- `EVENT.BUS`: set bus latch bits, then re-drive the line (41_interrupt_aggregator.md R144). -/
def execEventBus (mask : Word) (s : State) : StepResult :=
  s.wrote (s.dev.setLatch .busIntr mask).updateIrq

/-- `EVENT.FIFO`: set FIFO latch bits, then re-drive the line (41_interrupt_aggregator.md R145). -/
def execEventFifo (mask : Word) (s : State) : StepResult :=
  s.wrote (s.dev.setLatch .fifoIntr mask).updateIrq

end Sys2Proof.Machine
end

