-- ==== Sys2Proof/Machine/Kelvin.lean ====
section
/-! DEFINITION. The 3D engine's method table (43_d3d_methods.md). Each method is an effect on the device,
used by `CMD`, `D3DCMD` and the FIFO kick alike, and the meaning of its row of opcode_table.json. -/

namespace Sys2Proof.Machine

/-- `BppOf`, the format-to-bytes-per-pixel mapping (43_d3d_methods.md R176). -/
def bppOf (nibble : BitVec 4) : Word :=
  if nibble = 0x1 then 1
  else if nibble = 0x3 then 2
  else if nibble = 0x5 then 4
  else 4

/-! ## The effects -/

/-- The effect of `SEMAPHORE_OBJECT` (43_d3d_methods.md R171). -/
def Device.semaphoreObject (d : Device) (c : ChanId) (param : Word) : Device :=
  d.setD3d c { (d.channel c).d3d with semaphoreObj := param }

/-- The effect of `SEMAPHORE_OFFSET` (43_d3d_methods.md R172). -/
def Device.semaphoreOffset (d : Device) (c : ChanId) (param : Word) : Device :=
  d.setD3d c { (d.channel c).d3d with semaphoreOffset := param }

/-- The effect of `CLIP_HORIZONTAL` (43_d3d_methods.md R173). -/
def Device.clipHorizontal (d : Device) (c : ChanId) (param : Word) : Device :=
  d.setD3d c { (d.channel c).d3d with clipHorizontal := param }

/-- The effect of `CLIP_VERTICAL` (43_d3d_methods.md R174). -/
def Device.clipVertical (d : Device) (c : ChanId) (param : Word) : Device :=
  d.setD3d c { (d.channel c).d3d with clipVertical := param }

/-- The effect of `SURFACE_PITCH` (43_d3d_methods.md R177). -/
def Device.surfacePitch (d : Device) (c : ChanId) (param : Word) : Device :=
  d.setD3d c { (d.channel c).d3d with surfacePitch := param }

/-- The effect of `SURFACE_COLOR_OFFSET` (43_d3d_methods.md R178). -/
def Device.surfaceColorOffset (d : Device) (c : ChanId) (param : Word) : Device :=
  d.setD3d c { (d.channel c).d3d with surfaceColorOffset := param }

/-- The effect of `COLOR_CLEAR_VALUE` (43_d3d_methods.md R180). -/
def Device.colorClearValue (d : Device) (c : ChanId) (param : Word) : Device :=
  d.setD3d c { (d.channel c).d3d with clearValue := param }

/-- The effect of `SURFACE_FORMAT`: the parameter and the derived bytes per pixel
(43_d3d_methods.md R175). -/
def Device.surfaceFormat (d : Device) (c : ChanId) (param : Word) : Device :=
  d.setD3d c
    { (d.channel c).d3d with surfaceFormat := param, bytesPerPixel := bppOf (formatNibble param) }

/-- The effect of `CLEAR_SURFACE`: the trigger value, and the full-redraw signal; no pixel is written
(43_d3d_methods.md R179). -/
def Device.clearSurface (d : Device) (c : ChanId) (param : Word) : Device :=
  (d.setD3d c { (d.channel c).d3d with clearSurface := param }).emit .fullRedraw

/-- The effect of `SEMAPHORE_ACQUIRE`: one 4-byte write through the shim, dropped where it does not fit
(43_d3d_methods.md R181). -/
def Device.semaphoreAcquire (d : Device) (cfg : Config) (c : ChanId) (param : Word) : Device :=
  d.write32 cfg (d.channel c).d3d.semaphoreObj (d.channel c).d3d.semaphoreOffset param

/-- The effect of a 3D method given by name (43_d3d_methods.md R170). -/
def runD3d (cfg : Config) (m : D3DMethod) (c : ChanId) (param : Word) (d : Device) : Device :=
  match m with
  | .semaphoreObject => d.semaphoreObject c param
  | .semaphoreOffset => d.semaphoreOffset c param
  | .clipHorizontal => d.clipHorizontal c param
  | .clipVertical => d.clipVertical c param
  | .surfaceFormat => d.surfaceFormat c param
  | .surfacePitch => d.surfacePitch c param
  | .surfaceColorOffset => d.surfaceColorOffset c param
  | .clearSurface => d.clearSurface c param
  | .colorClearValue => d.colorClearValue c param
  | .semaphoreAcquire => d.semaphoreAcquire cfg c param

/-- `ExecD3DMethod(chid, method, param)`: the method table of a channel, and its result
(43_d3d_methods.md R170, R182). -/
def execD3dMethod (cfg : Config) (c : ChanId) (method param : Word) (d : Device) : Device × Bool :=
  match cfg.d3dMethodOf method with
  | some m => (runD3d cfg m c param d, true)
  | none => (d, false)

/-! ## The rows -/

/-- `KELVIN.SEMAPHORE_OBJECT` (43_d3d_methods.md R171). -/
def execKelvinSemaphoreObject (_via : Entry) (c : ChanId) (_method param : Word) (s : State) : StepResult :=
  s.dispatched (s.dev.semaphoreObject c param, true)

/-- `KELVIN.SEMAPHORE_OFFSET` (43_d3d_methods.md R172). -/
def execKelvinSemaphoreOffset (_via : Entry) (c : ChanId) (_method param : Word) (s : State) : StepResult :=
  s.dispatched (s.dev.semaphoreOffset c param, true)

/-- `KELVIN.CLIP_HORIZONTAL` (43_d3d_methods.md R173). -/
def execKelvinClipHorizontal (_via : Entry) (c : ChanId) (_method param : Word) (s : State) : StepResult :=
  s.dispatched (s.dev.clipHorizontal c param, true)

/-- `KELVIN.CLIP_VERTICAL` (43_d3d_methods.md R174). -/
def execKelvinClipVertical (_via : Entry) (c : ChanId) (_method param : Word) (s : State) : StepResult :=
  s.dispatched (s.dev.clipVertical c param, true)

/-- `KELVIN.SURFACE_FORMAT` (43_d3d_methods.md R175). -/
def execKelvinSurfaceFormat (_via : Entry) (c : ChanId) (_method param : Word) (s : State) : StepResult :=
  s.dispatched (s.dev.surfaceFormat c param, true)

/-- `KELVIN.SURFACE_PITCH` (43_d3d_methods.md R177). -/
def execKelvinSurfacePitch (_via : Entry) (c : ChanId) (_method param : Word) (s : State) : StepResult :=
  s.dispatched (s.dev.surfacePitch c param, true)

/-- `KELVIN.SURFACE_COLOR_OFFSET` (43_d3d_methods.md R178). -/
def execKelvinSurfaceColorOffset (_via : Entry) (c : ChanId) (_method param : Word) (s : State) : StepResult :=
  s.dispatched (s.dev.surfaceColorOffset c param, true)

/-- `KELVIN.CLEAR_SURFACE` (43_d3d_methods.md R179). -/
def execKelvinClearSurface (_via : Entry) (c : ChanId) (_method param : Word) (s : State) : StepResult :=
  s.dispatched (s.dev.clearSurface c param, true)

/-- `KELVIN.COLOR_CLEAR_VALUE` (43_d3d_methods.md R180). -/
def execKelvinColorClearValue (_via : Entry) (c : ChanId) (_method param : Word) (s : State) : StepResult :=
  s.dispatched (s.dev.colorClearValue c param, true)

/-- `KELVIN.SEMAPHORE_ACQUIRE` (43_d3d_methods.md R181). -/
def execKelvinSemaphoreAcquire (_via : Entry) (c : ChanId) (_method param : Word) (s : State) : StepResult :=
  s.dispatched (s.dev.semaphoreAcquire s.cfg c param, true)

/-- `KELVIN.UNKNOWN` (43_d3d_methods.md R182). -/
def execKelvinUnknown (_via : Entry) (_c : ChanId) (_method _param : Word) (s : State) : StepResult :=
  s.dispatched (s.dev, false)

end Sys2Proof.Machine
end

