-- ==== Sys2Proof/Machine/Dispatcher.lean ====
section
/-! DEFINITION. The command dispatcher, the 2D-surface engine, the engines that accept everything, and the
FIFO kick (42_command_dispatcher.md). -/

namespace Sys2Proof.Machine

/-! ## The 2D-surface engine -/

/-- The effect of `SURF2D.FORMAT` (42_command_dispatcher.md R154). -/
def Device.surf2dFormat (d : Device) (c : ChanId) (param : Word) : Device :=
  d.setSurf2d c { (d.channel c).surf2d with format := param }

/-- The effect of `SURF2D.PITCH` (42_command_dispatcher.md R155). -/
def Device.surf2dPitch (d : Device) (c : ChanId) (param : Word) : Device :=
  d.setSurf2d c { (d.channel c).surf2d with pitch := param }

/-- The effect of `SURF2D.OFFSET_SRC` (42_command_dispatcher.md R156). -/
def Device.surf2dOffsetSrc (d : Device) (c : ChanId) (param : Word) : Device :=
  d.setSurf2d c { (d.channel c).surf2d with offsetSrc := param }

/-- The effect of `SURF2D.OFFSET_DST` (42_command_dispatcher.md R157). -/
def Device.surf2dOffsetDst (d : Device) (c : ChanId) (param : Word) : Device :=
  d.setSurf2d c { (d.channel c).surf2d with offsetDst := param }

/-- `ExecSurf2D(chid, method, param)` (42_command_dispatcher.md R154 to R158). -/
def execSurf2d (cfg : Config) (c : ChanId) (method param : Word) (d : Device) : Device × Bool :=
  match cfg.surf2dMethodOf method with
  | some .format => (d.surf2dFormat c param, true)
  | some .pitch => (d.surf2dPitch c param, true)
  | some .offsetSrc => (d.surf2dOffsetSrc c param, true)
  | some .offsetDst => (d.surf2dOffsetDst c param, true)
  | none => (d, false)

/-! ## The entry points -/

/-- `ExecEngine`: channel check, subchannel check, then the engine that the class operand selects
(42_command_dispatcher.md R150, R151, R152). -/
def execEngine (cfg : Config) (chid subc cls method param : Word) (d : Device) : Device × Bool :=
  match chanOf chid with
  | none => (d, false)
  | some c =>
    match subOf subc with
    | none => (d, false)
    | some _ =>
      match cfg.classOf cls with
      | some .kelvin => execD3dMethod cfg c method param d
      | some .surf2d => execSurf2d cfg c method param d
      | some .gdi => (d, true)
      | some .m2mf => (d, true)
      | some .ifc => (d, true)
      | none => (d, false)

/-- `ExecD3D`: channel check, then the 3D method table (42_command_dispatcher.md R166). -/
def execD3d (cfg : Config) (chid method param : Word) (d : Device) : Device × Bool :=
  match chanOf chid with
  | none => (d, false)
  | some c => execD3dMethod cfg c method param d

/-- `CMD` (42_command_dispatcher.md R150). -/
def execCmd (chid subc cls method param : Word) (s : State) : StepResult :=
  s.dispatched (execEngine s.cfg chid subc cls method param s.dev)

/-- `D3DCMD` (42_command_dispatcher.md R166). -/
def execD3dcmd (chid method param : Word) (s : State) : StepResult :=
  s.dispatched (execD3d s.cfg chid method param s.dev)

/-- `CMD.BADCHID` (42_command_dispatcher.md R151). -/
def execCmdBadchid (_chid _subc _cls _method _param : Word) (s : State) : StepResult :=
  s.dispatched (s.dev, false)

/-- `CMD.BADSUBC` (42_command_dispatcher.md R151). -/
def execCmdBadsubc (_c : ChanId) (_subc _cls _method _param : Word) (s : State) : StepResult :=
  s.dispatched (s.dev, false)

/-! ## The rows behind `CMD` -/

/-- `SURF2D.FORMAT` (42_command_dispatcher.md R154). -/
def execSurf2dFormat (c : ChanId) (_subc : SubId) (_cls _method param : Word) (s : State) : StepResult :=
  s.dispatched (s.dev.surf2dFormat c param, true)

/-- `SURF2D.PITCH` (42_command_dispatcher.md R155). -/
def execSurf2dPitch (c : ChanId) (_subc : SubId) (_cls _method param : Word) (s : State) : StepResult :=
  s.dispatched (s.dev.surf2dPitch c param, true)

/-- `SURF2D.OFFSET_SRC` (42_command_dispatcher.md R156). -/
def execSurf2dOffsetSrc (c : ChanId) (_subc : SubId) (_cls _method param : Word) (s : State) : StepResult :=
  s.dispatched (s.dev.surf2dOffsetSrc c param, true)

/-- `SURF2D.OFFSET_DST` (42_command_dispatcher.md R157). -/
def execSurf2dOffsetDst (c : ChanId) (_subc : SubId) (_cls _method param : Word) (s : State) : StepResult :=
  s.dispatched (s.dev.surf2dOffsetDst c param, true)

/-- `SURF2D.UNKNOWN` (42_command_dispatcher.md R158). -/
def execSurf2dUnknown (_c : ChanId) (_subc : SubId) (_cls _method _param : Word) (s : State) : StepResult :=
  s.dispatched (s.dev, false)

/-- `GDI.ANY`: no effect, success (42_command_dispatcher.md R159). -/
def execGdiAny (_c : ChanId) (_subc : SubId) (_cls _method _param : Word) (s : State) : StepResult :=
  s.dispatched (s.dev, true)

/-- `M2MF.ANY`: no effect, success; it copies no memory (42_command_dispatcher.md R160). -/
def execM2mfAny (_c : ChanId) (_subc : SubId) (_cls _method _param : Word) (s : State) : StepResult :=
  s.dispatched (s.dev, true)

/-- `IFC.ANY`: no effect, success; it transfers no image (42_command_dispatcher.md R161). -/
def execIfcAny (_c : ChanId) (_subc : SubId) (_cls _method _param : Word) (s : State) : StepResult :=
  s.dispatched (s.dev, true)

/-- `CLASS.UNKNOWN` (42_command_dispatcher.md R162). -/
def execClassUnknown (_c : ChanId) (_subc : SubId) (_cls _method _param : Word) (s : State) : StepResult :=
  s.dispatched (s.dev, false)

/-! ## The FIFO kick -/

/-- The commands of a kick: the one-pair stub, or what the plugged-in fetch gives for the device
(42_command_dispatcher.md R163; log entry 9). -/
def kickCommands (cfg : Config) (d : Device) : List (D3DMethod × Word) :=
  match cfg.kickFetch with
  | .stub => [(.semaphoreObject, cfg.kickParam)]
  | .plugged => Config.pluggedFetch d

/-- `Kick()`: each command of the list is dispatched to the channel in order, each to completion, its result
discarded (42_command_dispatcher.md R163, R164). The validity test of the source is kept, though a
5-bit id passes it always. -/
def Device.kick (d : Device) (cfg : Config) : Device :=
  match chanOf (kickChid d.reg) with
  | some c => (kickCommands cfg d).foldl (fun d mp => runD3d cfg mp.1 c mp.2 d) d
  | none => d

/-- `KICK` (42_command_dispatcher.md R163): the kick by itself, as `WR.CACHE1_PUT` fires it
(log entry 11). -/
def execKick (s : State) : StepResult := s.wrote (s.dev.kick s.cfg)

end Sys2Proof.Machine
end

