-- ==== Sys2Proof/Machine/FrontEnd.lean ====
section
/-! DEFINITION. The register-space front end (40_register_frontend.md): one meaning for the read and one for
the write of each of the twenty registers, and the six default cases. -/

namespace Sys2Proof.Machine

/-! ## Shared operations -/

/-- The read of a stored register returns its value and changes nothing
(40_register_frontend.md R90; 20_memory.md R55). -/
def readStored (r : Reg) (s : State) : StepResult := s.answer (s.dev.reg.get r)

/-- The write of a plain register stores all 32 bits and does nothing else (10_state.md R10). -/
def writePlain (r : Reg) (data : Word) (s : State) : StepResult := s.wrote (s.dev.writeReg r data)

/-- The write of an interrupt enable stores it and re-drives the line (41_interrupt_aggregator.md R143). -/
def writeEnable (r : Reg) (data : Word) (s : State) : StepResult :=
  s.wrote (s.dev.writeReg r data).updateIrq

/-- The write of a latch clears the bits that are 1 in the value and re-drives the line
(10_state.md R14, R16). -/
def writeLatch (r : Reg) (data : Word) (s : State) : StepResult :=
  s.wrote (s.dev.clearLatch r data).updateIrq

/-! ## Reads -/

/-- `RD.MC_INTR`: the aggregate word, not masked by `MC_INTR_EN` (40_register_frontend.md R100). -/
def execRdMcIntr (s : State) : StepResult := s.answer (aggregate s.dev.reg)

/-- `RD.MC_INTR_EN` (40_register_frontend.md R102). -/
def execRdMcIntrEn (s : State) : StepResult := readStored .mcIntrEn s

/-- `RD.MC_ENABLE` (40_register_frontend.md R104). -/
def execRdMcEnable (s : State) : StepResult := readStored .mcEnable s

/-- `RD.BUS_INTR` (40_register_frontend.md R106). -/
def execRdBusIntr (s : State) : StepResult := readStored .busIntr s

/-- `RD.BUS_INTR_EN` (40_register_frontend.md R108). -/
def execRdBusIntrEn (s : State) : StepResult := readStored .busIntrEn s

/-- `RD.FIFO_INTR` (40_register_frontend.md R110). -/
def execRdFifoIntr (s : State) : StepResult := readStored .fifoIntr s

/-- `RD.FIFO_INTR_EN` (40_register_frontend.md R112). -/
def execRdFifoIntrEn (s : State) : StepResult := readStored .fifoIntrEn s

/-- `RD.FIFO_RAMHT` (40_register_frontend.md R114). -/
def execRdFifoRamht (s : State) : StepResult := readStored .fifoRamht s

/-- `RD.FIFO_RAMFC` (40_register_frontend.md R116). -/
def execRdFifoRamfc (s : State) : StepResult := readStored .fifoRamfc s

/-- `RD.FIFO_RAMRO` (40_register_frontend.md R118). -/
def execRdFifoRamro (s : State) : StepResult := readStored .fifoRamro s

/-- `RD.FIFO_MODE` (40_register_frontend.md R120). -/
def execRdFifoMode (s : State) : StepResult := readStored .fifoMode s

/-- `RD.CACHE1_PUSH1` (40_register_frontend.md R122). -/
def execRdCache1Push1 (s : State) : StepResult := readStored .cache1Push1 s

/-- `RD.CACHE1_PUT` (40_register_frontend.md R124). -/
def execRdCache1Put (s : State) : StepResult := readStored .cache1Put s

/-- `RD.CACHE1_DMA_PUSH` (40_register_frontend.md R126). -/
def execRdCache1DmaPush (s : State) : StepResult := readStored .cache1DmaPush s

/-- `RD.CACHE1_DMA_INSTANCE` (40_register_frontend.md R128). -/
def execRdCache1DmaInstance (s : State) : StepResult := readStored .cache1DmaInstance s

/-- `RD.CACHE1_DMA_PUT` (40_register_frontend.md R130). -/
def execRdCache1DmaPut (s : State) : StepResult := readStored .cache1DmaPut s

/-- `RD.CACHE1_DMA_GET` (40_register_frontend.md R132). -/
def execRdCache1DmaGet (s : State) : StepResult := readStored .cache1DmaGet s

/-- `RD.CACHE1_REF_CNT` (40_register_frontend.md R134). -/
def execRdCache1RefCnt (s : State) : StepResult := readStored .cache1RefCnt s

/-- `RD.CACHE1_PULL` (40_register_frontend.md R136). -/
def execRdCache1Pull (s : State) : StepResult := readStored .cache1Pull s

/-- `RD.CACHE1_SEMAPHORE` (40_register_frontend.md R138). -/
def execRdCache1Semaphore (s : State) : StepResult := readStored .cache1Semaphore s

/-! ## Writes -/

/-- `WR.MC_INTR`: bit 0 clears the whole bus latch, bit 8 the whole FIFO latch, then the line is re-driven
(40_register_frontend.md R101). -/
def execWrMcIntr (data : Word) (s : State) : StepResult :=
  s.wrote ((s.dev.ackLatch .busIntr (acksBus data)).ackLatch .fifoIntr (acksFifo data)).updateIrq

/-- `WR.MC_INTR_EN` (40_register_frontend.md R103). -/
def execWrMcIntrEn (data : Word) (s : State) : StepResult := writeEnable .mcIntrEn data s

/-- `WR.MC_ENABLE` (40_register_frontend.md R105). -/
def execWrMcEnable (data : Word) (s : State) : StepResult := writePlain .mcEnable data s

/-- `WR.BUS_INTR` (40_register_frontend.md R107). -/
def execWrBusIntr (data : Word) (s : State) : StepResult := writeLatch .busIntr data s

/-- `WR.BUS_INTR_EN` (40_register_frontend.md R109). -/
def execWrBusIntrEn (data : Word) (s : State) : StepResult := writeEnable .busIntrEn data s

/-- `WR.FIFO_INTR` (40_register_frontend.md R111). -/
def execWrFifoIntr (data : Word) (s : State) : StepResult := writeLatch .fifoIntr data s

/-- `WR.FIFO_INTR_EN` (40_register_frontend.md R113). -/
def execWrFifoIntrEn (data : Word) (s : State) : StepResult := writeEnable .fifoIntrEn data s

/-- `WR.FIFO_RAMHT` (40_register_frontend.md R115). -/
def execWrFifoRamht (data : Word) (s : State) : StepResult := writePlain .fifoRamht data s

/-- `WR.FIFO_RAMFC` (40_register_frontend.md R117). -/
def execWrFifoRamfc (data : Word) (s : State) : StepResult := writePlain .fifoRamfc data s

/-- `WR.FIFO_RAMRO` (40_register_frontend.md R119). -/
def execWrFifoRamro (data : Word) (s : State) : StepResult := writePlain .fifoRamro data s

/-- `WR.FIFO_MODE` (40_register_frontend.md R121). -/
def execWrFifoMode (data : Word) (s : State) : StepResult := writePlain .fifoMode data s

/-- `WR.CACHE1_PUSH1` (40_register_frontend.md R123). -/
def execWrCache1Push1 (data : Word) (s : State) : StepResult := writePlain .cache1Push1 data s

/-- `WR.CACHE1_PUT`: the store, then, with the push-enable bit set, the FIFO kick in the same transaction
(40_register_frontend.md R125). -/
def execWrCache1Put (data : Word) (s : State) : StepResult :=
  let d := s.dev.writeReg .cache1Put data
  s.wrote (if pushEnabled d.reg then d.kick s.cfg else d)

/-- `WR.CACHE1_DMA_PUSH` (40_register_frontend.md R127). -/
def execWrCache1DmaPush (data : Word) (s : State) : StepResult := writePlain .cache1DmaPush data s

/-- `WR.CACHE1_DMA_INSTANCE` (40_register_frontend.md R129). -/
def execWrCache1DmaInstance (data : Word) (s : State) : StepResult := writePlain .cache1DmaInstance data s

/-- `WR.CACHE1_DMA_PUT` (40_register_frontend.md R131). -/
def execWrCache1DmaPut (data : Word) (s : State) : StepResult := writePlain .cache1DmaPut data s

/-- `WR.CACHE1_DMA_GET` (40_register_frontend.md R133). -/
def execWrCache1DmaGet (data : Word) (s : State) : StepResult := writePlain .cache1DmaGet data s

/-- `WR.CACHE1_REF_CNT` (40_register_frontend.md R135). -/
def execWrCache1RefCnt (data : Word) (s : State) : StepResult := writePlain .cache1RefCnt data s

/-- `WR.CACHE1_PULL` (40_register_frontend.md R137). -/
def execWrCache1Pull (data : Word) (s : State) : StepResult := writePlain .cache1Pull data s

/-- `WR.CACHE1_SEMAPHORE` (40_register_frontend.md R139). -/
def execWrCache1Semaphore (data : Word) (s : State) : StepResult := writePlain .cache1Semaphore data s

/-! ## Default cases -/

/-- `RD.BADSIZE` (40_register_frontend.md R92). -/
def execRdBadsize (_addr : Word) (_size : Nat) (s : State) : StepResult := s.answer 0

/-- `WR.BADSIZE` (40_register_frontend.md R93). -/
def execWrBadsize (_addr : Word) (_size : Nat) (_data : Word) (s : State) : StepResult := s.wrote s.dev

/-- `RD.OOR` (40_register_frontend.md R94). -/
def execRdOor (_addr : Word) (s : State) : StepResult := s.answer 0

/-- `WR.OOR` (40_register_frontend.md R95). -/
def execWrOor (_addr _data : Word) (s : State) : StepResult := s.wrote s.dev

/-- `RD.UNKNOWN` (40_register_frontend.md R96). -/
def execRdUnknown (_addr : Word) (s : State) : StepResult := s.answer 0

/-- `WR.UNKNOWN` (40_register_frontend.md R97). -/
def execWrUnknown (_addr _data : Word) (s : State) : StepResult := s.wrote s.dev

end Sys2Proof.Machine
end

