-- ==== Sys2Proof/Machine/ResetOp.lean ====
section
/-! DEFINITION. The reset operation (70_reset_and_hazards.md R230). -/

namespace Sys2Proof.Machine

/-- `Reset()`: every stored register 0 but `MC_ENABLE` and `FIFO_MODE`, which are 1; every channel as at
reset; then the line is re-driven. The memory region and the trace so far stay
(70_reset_and_hazards.md R230). -/
def Device.resetAll (d : Device) : Device :=
  { d with reg := RegFile.initial, chan := Vector.replicate 32 Channel.initial }.updateIrq

/-- `RESET` (70_reset_and_hazards.md R230). -/
def execReset (s : State) : StepResult := s.wrote s.dev.resetAll

end Sys2Proof.Machine
end

