-- ==== Sys2Proof/Machine/Shim.lean ====
section
/-! DEFINITION. The operations of the memory access shim (44_memory_shim.md). -/

namespace Sys2Proof.Machine

/-- `READ32` (44_memory_shim.md R191). -/
def execRead32 (object offset : Word) (s : State) : StepResult :=
  s.answer (s.dev.read32 s.cfg object offset)

/-- `WRITE32` (44_memory_shim.md R192). -/
def execWrite32 (object offset value : Word) (s : State) : StepResult :=
  s.wrote (s.dev.write32 s.cfg object offset value)

/-- `RAMIN.RD` (44_memory_shim.md R193). -/
def execRaminRd (addr size : Nat) (s : State) : StepResult :=
  s.answer (s.dev.raminRead s.cfg addr size)

/-- `RAMIN.WR` (44_memory_shim.md R194). -/
def execRaminWr (addr size : Nat) (data : Word) (s : State) : StepResult :=
  s.wrote (s.dev.raminWrite s.cfg addr size data)

end Sys2Proof.Machine
end

