-- ==== Sys2Proof/Machine/Dispatch.lean ====
section
/-! DEFINITION. The dispatch of an operation to its meaning, one arm per row of opcode_table.json. -/

namespace Sys2Proof.Machine

def exec (i : Instr) (s : State) : Host.Outcome State Fault Refusal :=
  match i with
  | .rdMcIntr => Sys2Proof.Machine.execRdMcIntr s
  | .wrMcIntr data => Sys2Proof.Machine.execWrMcIntr data s
  | .rdMcIntrEn => Sys2Proof.Machine.execRdMcIntrEn s
  | .wrMcIntrEn data => Sys2Proof.Machine.execWrMcIntrEn data s
  | .rdMcEnable => Sys2Proof.Machine.execRdMcEnable s
  | .wrMcEnable data => Sys2Proof.Machine.execWrMcEnable data s
  | .rdBusIntr => Sys2Proof.Machine.execRdBusIntr s
  | .wrBusIntr data => Sys2Proof.Machine.execWrBusIntr data s
  | .rdBusIntrEn => Sys2Proof.Machine.execRdBusIntrEn s
  | .wrBusIntrEn data => Sys2Proof.Machine.execWrBusIntrEn data s
  | .rdFifoIntr => Sys2Proof.Machine.execRdFifoIntr s
  | .wrFifoIntr data => Sys2Proof.Machine.execWrFifoIntr data s
  | .rdFifoIntrEn => Sys2Proof.Machine.execRdFifoIntrEn s
  | .wrFifoIntrEn data => Sys2Proof.Machine.execWrFifoIntrEn data s
  | .rdFifoRamht => Sys2Proof.Machine.execRdFifoRamht s
  | .wrFifoRamht data => Sys2Proof.Machine.execWrFifoRamht data s
  | .rdFifoRamfc => Sys2Proof.Machine.execRdFifoRamfc s
  | .wrFifoRamfc data => Sys2Proof.Machine.execWrFifoRamfc data s
  | .rdFifoRamro => Sys2Proof.Machine.execRdFifoRamro s
  | .wrFifoRamro data => Sys2Proof.Machine.execWrFifoRamro data s
  | .rdFifoMode => Sys2Proof.Machine.execRdFifoMode s
  | .wrFifoMode data => Sys2Proof.Machine.execWrFifoMode data s
  | .rdCache1Push1 => Sys2Proof.Machine.execRdCache1Push1 s
  | .wrCache1Push1 data => Sys2Proof.Machine.execWrCache1Push1 data s
  | .rdCache1Put => Sys2Proof.Machine.execRdCache1Put s
  | .wrCache1Put data => Sys2Proof.Machine.execWrCache1Put data s
  | .rdCache1DmaPush => Sys2Proof.Machine.execRdCache1DmaPush s
  | .wrCache1DmaPush data => Sys2Proof.Machine.execWrCache1DmaPush data s
  | .rdCache1DmaInstance => Sys2Proof.Machine.execRdCache1DmaInstance s
  | .wrCache1DmaInstance data => Sys2Proof.Machine.execWrCache1DmaInstance data s
  | .rdCache1DmaPut => Sys2Proof.Machine.execRdCache1DmaPut s
  | .wrCache1DmaPut data => Sys2Proof.Machine.execWrCache1DmaPut data s
  | .rdCache1DmaGet => Sys2Proof.Machine.execRdCache1DmaGet s
  | .wrCache1DmaGet data => Sys2Proof.Machine.execWrCache1DmaGet data s
  | .rdCache1RefCnt => Sys2Proof.Machine.execRdCache1RefCnt s
  | .wrCache1RefCnt data => Sys2Proof.Machine.execWrCache1RefCnt data s
  | .rdCache1Pull => Sys2Proof.Machine.execRdCache1Pull s
  | .wrCache1Pull data => Sys2Proof.Machine.execWrCache1Pull data s
  | .rdCache1Semaphore => Sys2Proof.Machine.execRdCache1Semaphore s
  | .wrCache1Semaphore data => Sys2Proof.Machine.execWrCache1Semaphore data s
  | .rdBadsize addr size => Sys2Proof.Machine.execRdBadsize addr size s
  | .wrBadsize addr size data => Sys2Proof.Machine.execWrBadsize addr size data s
  | .rdOor addr => Sys2Proof.Machine.execRdOor addr s
  | .wrOor addr data => Sys2Proof.Machine.execWrOor addr data s
  | .rdUnknown addr => Sys2Proof.Machine.execRdUnknown addr s
  | .wrUnknown addr data => Sys2Proof.Machine.execWrUnknown addr data s
  | .raminRd addr size => Sys2Proof.Machine.execRaminRd addr size s
  | .raminWr addr size data => Sys2Proof.Machine.execRaminWr addr size data s
  | .read32 object offset => Sys2Proof.Machine.execRead32 object offset s
  | .write32 object offset value => Sys2Proof.Machine.execWrite32 object offset value s
  | .cmd chid subc cls method param => Sys2Proof.Machine.execCmd chid subc cls method param s
  | .d3dcmd chid method param => Sys2Proof.Machine.execD3dcmd chid method param s
  | .cmdBadchid chid subc cls method param => Sys2Proof.Machine.execCmdBadchid chid subc cls method param s
  | .cmdBadsubc chid subc cls method param => Sys2Proof.Machine.execCmdBadsubc chid subc cls method param s
  | .kelvinSemaphoreObject via chid method param => Sys2Proof.Machine.execKelvinSemaphoreObject via chid method param s
  | .kelvinSemaphoreOffset via chid method param => Sys2Proof.Machine.execKelvinSemaphoreOffset via chid method param s
  | .kelvinClipHorizontal via chid method param => Sys2Proof.Machine.execKelvinClipHorizontal via chid method param s
  | .kelvinClipVertical via chid method param => Sys2Proof.Machine.execKelvinClipVertical via chid method param s
  | .kelvinSurfaceFormat via chid method param => Sys2Proof.Machine.execKelvinSurfaceFormat via chid method param s
  | .kelvinSurfacePitch via chid method param => Sys2Proof.Machine.execKelvinSurfacePitch via chid method param s
  | .kelvinSurfaceColorOffset via chid method param => Sys2Proof.Machine.execKelvinSurfaceColorOffset via chid method param s
  | .kelvinClearSurface via chid method param => Sys2Proof.Machine.execKelvinClearSurface via chid method param s
  | .kelvinColorClearValue via chid method param => Sys2Proof.Machine.execKelvinColorClearValue via chid method param s
  | .kelvinSemaphoreAcquire via chid method param => Sys2Proof.Machine.execKelvinSemaphoreAcquire via chid method param s
  | .kelvinUnknown via chid method param => Sys2Proof.Machine.execKelvinUnknown via chid method param s
  | .surf2dFormat chid subc cls method param => Sys2Proof.Machine.execSurf2dFormat chid subc cls method param s
  | .surf2dPitch chid subc cls method param => Sys2Proof.Machine.execSurf2dPitch chid subc cls method param s
  | .surf2dOffsetSrc chid subc cls method param => Sys2Proof.Machine.execSurf2dOffsetSrc chid subc cls method param s
  | .surf2dOffsetDst chid subc cls method param => Sys2Proof.Machine.execSurf2dOffsetDst chid subc cls method param s
  | .surf2dUnknown chid subc cls method param => Sys2Proof.Machine.execSurf2dUnknown chid subc cls method param s
  | .gdiAny chid subc cls method param => Sys2Proof.Machine.execGdiAny chid subc cls method param s
  | .m2mfAny chid subc cls method param => Sys2Proof.Machine.execM2mfAny chid subc cls method param s
  | .ifcAny chid subc cls method param => Sys2Proof.Machine.execIfcAny chid subc cls method param s
  | .classUnknown chid subc cls method param => Sys2Proof.Machine.execClassUnknown chid subc cls method param s
  | .eventBus mask => Sys2Proof.Machine.execEventBus mask s
  | .eventFifo mask => Sys2Proof.Machine.execEventFifo mask s
  | .reset => Sys2Proof.Machine.execReset s
  | .kick => Sys2Proof.Machine.execKick s

end Sys2Proof.Machine
end

