-- ==== Sys2Proof/Machine/Step.lean ====
section
/-! DEFINITION. One step of the machine: one whole transaction of the environment's list
(00_scope.md R6, 10_state.md R48). -/

namespace Sys2Proof.Machine

/-- One step: the transaction presented next is taken, decoded and completed with every side effect before
another is looked at (00_scope.md R6, 20_memory.md R54). With none presented the block does nothing on
its own (R6; log entry 2). -/
def step (s : State) : Host.Outcome State Fault Refusal :=
  match s.env with
  | [] => .next s
  | t :: rest => exec (decode s.cfg t) { s with env := rest }

/-- The state with the record of a word of opcode_table.json presented as the next transaction
(log entries 1 and 2). -/
def State.withFetchWord (s : State) (nbits w : Nat) : State :=
  match tableRecord nbits w with
  | some t => { s with env := t :: s.env }
  | none => s

end Sys2Proof.Machine
end

