-- ==== Sys2Proof/Machine/Diag.lean ====
section
/-! DEFINITION. The error taxonomy (60_exceptions.md R211, R213, R216). The log is not architectural: no
operation reads it and no register reflects it (R212), so it is no state; what an implementation may log
for an operation is a function of the operation and the device it finds (log entry 15). -/

namespace Sys2Proof.Machine

/-- The two classes of errors of a constructed device (60_exceptions.md R211). -/
inductive ErrorClass
  | bounds | protocol
deriving DecidableEq, Repr

/-- The error causes (60_exceptions.md R213). -/
inductive Cause
  /-- `bad_size` of the register space. -/
  | badSizeMmio
  /-- `out_of_range`. -/
  | outOfRange
  /-- `unhandled`. -/
  | unhandled
  /-- `bad_size` of instance memory. -/
  | badSizeRamin
  /-- `bounds` of instance memory. -/
  | boundsRamin
  /-- `bounds` of the linear region. -/
  | boundsLinear
  /-- `bad_channel`. -/
  | badChannel
  /-- `bad_subchannel`. -/
  | badSubchannel
  /-- `unknown_class`. -/
  | unknownClass
  /-- `unknown_method`. -/
  | unknownMethod
deriving DecidableEq, Repr

/-- The class of a cause (60_exceptions.md R213). -/
def Cause.errorClass : Cause → ErrorClass
  | .badSizeMmio => .protocol
  | .outOfRange => .bounds
  | .unhandled => .protocol
  | .badSizeRamin => .protocol
  | .boundsRamin => .bounds
  | .boundsLinear => .bounds
  | .badChannel => .protocol
  | .badSubchannel => .protocol
  | .unknownClass => .protocol
  | .unknownMethod => .protocol

/-- Linear access: bounds (60_exceptions.md R213). -/
def linDiag (c : Config) (object offset : Word) : List Cause :=
  if linAllowed c object offset then [] else [.boundsLinear]

/-- Instance memory: size, then bounds (60_exceptions.md R216). -/
def raminDiag (c : Config) (addr size : Nat) : List Cause :=
  if raminSizeOk size then
    match raminAddr c addr size with
    | some _ => []
    | none => [.boundsRamin]
  else [.badSizeRamin]

/-- A 3D method: only the semaphore write can be out of bounds (60_exceptions.md R213). -/
def d3dDiag (cfg : Config) (d : Device) (c : ChanId) : D3DMethod → List Cause
  | .semaphoreAcquire =>
    linDiag cfg (d.channel c).d3d.semaphoreObj (d.channel c).d3d.semaphoreOffset
  | .semaphoreObject => []
  | .semaphoreOffset => []
  | .clipHorizontal => []
  | .clipVertical => []
  | .surfaceFormat => []
  | .surfacePitch => []
  | .surfaceColorOffset => []
  | .colorClearValue => []
  | .clearSurface => []

/-- The 3D method table: an unknown method, or the method's own (60_exceptions.md R216). -/
def d3dMethodDiag (cfg : Config) (d : Device) (c : ChanId) (method : Word) : List Cause :=
  match cfg.d3dMethodOf method with
  | some m => d3dDiag cfg d c m
  | none => [.unknownMethod]

/-- A command: channel, then subchannel, then class, then method (60_exceptions.md R216). -/
def engineDiag (cfg : Config) (d : Device) (chid subc cls method : Word) : List Cause :=
  match chanOf chid with
  | none => [.badChannel]
  | some c =>
    match subOf subc with
    | none => [.badSubchannel]
    | some _ =>
      match cfg.classOf cls with
      | some .kelvin => d3dMethodDiag cfg d c method
      | some .surf2d =>
        match cfg.surf2dMethodOf method with
        | some _ => []
        | none => [.unknownMethod]
      | some .gdi => []
      | some .m2mf => []
      | some .ifc => []
      | none => [.unknownClass]

/-- A `D3DCMD` command: channel, then method (60_exceptions.md R216). -/
def d3dcmdDiag (cfg : Config) (d : Device) (chid method : Word) : List Cause :=
  match chanOf chid with
  | none => [.badChannel]
  | some c => d3dMethodDiag cfg d c method

/-- The causes met by the commands of a kick, each in the device it finds
(42_command_dispatcher.md R163). -/
def commandsDiag (cfg : Config) (c : ChanId) : List (D3DMethod × Word) → Device → List Cause
  | [], _ => []
  | (m, p) :: rest, d => d3dDiag cfg d c m ++ commandsDiag cfg c rest (runD3d cfg m c p d)

/-- The causes met by a kick. -/
def kickDiag (cfg : Config) (d : Device) : List Cause :=
  match chanOf (kickChid d.reg) with
  | some c => commandsDiag cfg c (kickCommands cfg d) d
  | none => [.badChannel]

/-- What an implementation may log for an operation: the first cause in its check order
(60_exceptions.md R213, R216), of each command where a kick runs several. -/
def diag (cfg : Config) (d : Device) : Instr → List Cause
  | .rdMcIntr => []
  | .wrMcIntr _ => []
  | .rdMcIntrEn => []
  | .wrMcIntrEn _ => []
  | .rdMcEnable => []
  | .wrMcEnable _ => []
  | .rdBusIntr => []
  | .wrBusIntr _ => []
  | .rdBusIntrEn => []
  | .wrBusIntrEn _ => []
  | .rdFifoIntr => []
  | .wrFifoIntr _ => []
  | .rdFifoIntrEn => []
  | .wrFifoIntrEn _ => []
  | .rdFifoRamht => []
  | .wrFifoRamht _ => []
  | .rdFifoRamfc => []
  | .wrFifoRamfc _ => []
  | .rdFifoRamro => []
  | .wrFifoRamro _ => []
  | .rdFifoMode => []
  | .wrFifoMode _ => []
  | .rdCache1Push1 => []
  | .wrCache1Push1 _ => []
  | .rdCache1Put => []
  | .wrCache1Put data => if pushEnabled d.reg then kickDiag cfg (d.writeReg .cache1Put data) else []
  | .rdCache1DmaPush => []
  | .wrCache1DmaPush _ => []
  | .rdCache1DmaInstance => []
  | .wrCache1DmaInstance _ => []
  | .rdCache1DmaPut => []
  | .wrCache1DmaPut _ => []
  | .rdCache1DmaGet => []
  | .wrCache1DmaGet _ => []
  | .rdCache1RefCnt => []
  | .wrCache1RefCnt _ => []
  | .rdCache1Pull => []
  | .wrCache1Pull _ => []
  | .rdCache1Semaphore => []
  | .wrCache1Semaphore _ => []
  | .rdBadsize _ _ => [.badSizeMmio]
  | .wrBadsize _ _ _ => [.badSizeMmio]
  | .rdOor _ => [.outOfRange]
  | .wrOor _ _ => [.outOfRange]
  | .rdUnknown _ => [.unhandled]
  | .wrUnknown _ _ => [.unhandled]
  | .raminRd addr size => raminDiag cfg addr size
  | .raminWr addr size _ => raminDiag cfg addr size
  | .read32 object offset => linDiag cfg object offset
  | .write32 object offset _ => linDiag cfg object offset
  | .cmd chid subc cls method _ => engineDiag cfg d chid subc cls method
  | .d3dcmd chid method _ => d3dcmdDiag cfg d chid method
  | .cmdBadchid _ _ _ _ _ => [.badChannel]
  | .cmdBadsubc _ _ _ _ _ => [.badSubchannel]
  | .kelvinSemaphoreObject _ _ _ _ => []
  | .kelvinSemaphoreOffset _ _ _ _ => []
  | .kelvinClipHorizontal _ _ _ _ => []
  | .kelvinClipVertical _ _ _ _ => []
  | .kelvinSurfaceFormat _ _ _ _ => []
  | .kelvinSurfacePitch _ _ _ _ => []
  | .kelvinSurfaceColorOffset _ _ _ _ => []
  | .kelvinClearSurface _ _ _ _ => []
  | .kelvinColorClearValue _ _ _ _ => []
  | .kelvinSemaphoreAcquire _ chid _ _ => d3dDiag cfg d chid .semaphoreAcquire
  | .kelvinUnknown _ _ _ _ => [.unknownMethod]
  | .surf2dFormat _ _ _ _ _ => []
  | .surf2dPitch _ _ _ _ _ => []
  | .surf2dOffsetSrc _ _ _ _ _ => []
  | .surf2dOffsetDst _ _ _ _ _ => []
  | .surf2dUnknown _ _ _ _ _ => [.unknownMethod]
  | .gdiAny _ _ _ _ _ => []
  | .m2mfAny _ _ _ _ _ => []
  | .ifcAny _ _ _ _ _ => []
  | .classUnknown _ _ _ _ _ => [.unknownClass]
  | .eventBus _ => []
  | .eventFifo _ => []
  | .reset => []
  | .kick => kickDiag cfg d

end Sys2Proof.Machine
end

