-- ==== Sys2Proof/WellFormed.lean ====
section
/-! DEFINITION. When an operation is well formed: its operands are ones that its row of opcode_table.json
admits (the row's `condition` there; 30_encoding.md R73, R74, R78) under the decode functions of a
configuration. Ids that have passed their range check carry it in their type. -/

namespace Sys2Proof

/-- The condition of the `BADSIZE` rows (40_register_frontend.md R92, R93). -/
def sizeIsBad (size : Nat) : Bool := size != 4

/-- The condition of the `OOR` rows (40_register_frontend.md R94, R95). -/
def addrIsOutOfRange (addr : Word) : Bool := decide (mmioSize ≤ addr.toNat)

/-- The condition of the `UNKNOWN` rows of the register space (40_register_frontend.md R96, R97). -/
def addrIsUnknown (addr : Word) : Bool := decide (addr.toNat < mmioSize) && (regAt addr).isNone

/-- The condition of `CMD.BADCHID` (42_command_dispatcher.md R151). -/
def chidIsBad (chid : Word) : Bool := (chanOf chid).isNone

/-- The condition of `CMD.BADSUBC` after the channel check (42_command_dispatcher.md R151). -/
def subcIsBad (subc : Word) : Bool := (subOf subc).isNone

/-- The class tag of the command decodes to the given class, or to none (30_encoding.md R75). -/
def classIs (c : Config) (cls : Word) (k : Option EngineClass) : Bool := c.classOf cls == k

/-- The entry reaches the 3D engine: by `D3DCMD`, or by `CMD` with a class tag of it
(42_command_dispatcher.md R153, R166). -/
def entersKelvin (c : Config) : Entry → Bool
  | .cmd _ cls => classIs c cls (some .kelvin)
  | .d3dcmd => true

/-- The condition of a row of the 3D method table (43_d3d_methods.md R170). -/
def selectsKelvin (c : Config) (via : Entry) (method : Word) (m : Option D3DMethod) : Bool :=
  entersKelvin c via && (c.d3dMethodOf method == m)

/-- The condition of a row of the 2D-surface engine (42_command_dispatcher.md R154 to R158). -/
def selectsSurf2d (c : Config) (cls method : Word) (m : Option Surf2DMethod) : Bool :=
  classIs c cls (some .surf2d) && (c.surf2dMethodOf method == m)

/-- The operation is one that a record (or, for `KICK`, the block itself) can give rise to with these
operands: the `condition` of its row of opcode_table.json. -/
def Instr.wf (c : Config) : Instr → Bool
  | .rdMcIntr => true
  | .wrMcIntr _ => true
  | .rdMcIntrEn => true
  | .wrMcIntrEn _ => true
  | .rdMcEnable => true
  | .wrMcEnable _ => true
  | .rdBusIntr => true
  | .wrBusIntr _ => true
  | .rdBusIntrEn => true
  | .wrBusIntrEn _ => true
  | .rdFifoIntr => true
  | .wrFifoIntr _ => true
  | .rdFifoIntrEn => true
  | .wrFifoIntrEn _ => true
  | .rdFifoRamht => true
  | .wrFifoRamht _ => true
  | .rdFifoRamfc => true
  | .wrFifoRamfc _ => true
  | .rdFifoRamro => true
  | .wrFifoRamro _ => true
  | .rdFifoMode => true
  | .wrFifoMode _ => true
  | .rdCache1Push1 => true
  | .wrCache1Push1 _ => true
  | .rdCache1Put => true
  | .wrCache1Put _ => true
  | .rdCache1DmaPush => true
  | .wrCache1DmaPush _ => true
  | .rdCache1DmaInstance => true
  | .wrCache1DmaInstance _ => true
  | .rdCache1DmaPut => true
  | .wrCache1DmaPut _ => true
  | .rdCache1DmaGet => true
  | .wrCache1DmaGet _ => true
  | .rdCache1RefCnt => true
  | .wrCache1RefCnt _ => true
  | .rdCache1Pull => true
  | .wrCache1Pull _ => true
  | .rdCache1Semaphore => true
  | .wrCache1Semaphore _ => true
  | .rdBadsize _ size => sizeIsBad size
  | .wrBadsize _ size _ => sizeIsBad size
  | .rdOor addr => addrIsOutOfRange addr
  | .wrOor addr _ => addrIsOutOfRange addr
  | .rdUnknown addr => addrIsUnknown addr
  | .wrUnknown addr _ => addrIsUnknown addr
  | .raminRd _ _ => true
  | .raminWr _ _ _ => true
  | .read32 _ _ => true
  | .write32 _ _ _ => true
  | .cmd _ _ _ _ _ => true
  | .d3dcmd _ _ _ => true
  | .cmdBadchid chid _ _ _ _ => chidIsBad chid
  | .cmdBadsubc _ subc _ _ _ => subcIsBad subc
  | .kelvinSemaphoreObject via _ method _ => selectsKelvin c via method (some .semaphoreObject)
  | .kelvinSemaphoreOffset via _ method _ => selectsKelvin c via method (some .semaphoreOffset)
  | .kelvinClipHorizontal via _ method _ => selectsKelvin c via method (some .clipHorizontal)
  | .kelvinClipVertical via _ method _ => selectsKelvin c via method (some .clipVertical)
  | .kelvinSurfaceFormat via _ method _ => selectsKelvin c via method (some .surfaceFormat)
  | .kelvinSurfacePitch via _ method _ => selectsKelvin c via method (some .surfacePitch)
  | .kelvinSurfaceColorOffset via _ method _ => selectsKelvin c via method (some .surfaceColorOffset)
  | .kelvinClearSurface via _ method _ => selectsKelvin c via method (some .clearSurface)
  | .kelvinColorClearValue via _ method _ => selectsKelvin c via method (some .colorClearValue)
  | .kelvinSemaphoreAcquire via _ method _ => selectsKelvin c via method (some .semaphoreAcquire)
  | .kelvinUnknown via _ method _ => selectsKelvin c via method none
  | .surf2dFormat _ _ cls method _ => selectsSurf2d c cls method (some .format)
  | .surf2dPitch _ _ cls method _ => selectsSurf2d c cls method (some .pitch)
  | .surf2dOffsetSrc _ _ cls method _ => selectsSurf2d c cls method (some .offsetSrc)
  | .surf2dOffsetDst _ _ cls method _ => selectsSurf2d c cls method (some .offsetDst)
  | .surf2dUnknown _ _ cls method _ => selectsSurf2d c cls method none
  | .gdiAny _ _ cls _ _ => classIs c cls (some .gdi)
  | .m2mfAny _ _ cls _ _ => classIs c cls (some .m2mf)
  | .ifcAny _ _ cls _ _ => classIs c cls (some .ifc)
  | .classUnknown _ _ cls _ _ => classIs c cls none
  | .eventBus _ => true
  | .eventFifo _ => true
  | .reset => true
  | .kick => true

end Sys2Proof
end

