-- ==== Sys2Proof/Safety.lean ====
section
/-! DEFINITION. What counts as a safe run, and the words the statements are written in: the invariants of
the machine, and what an operation leaves unchanged. -/

namespace Sys2Proof.Machine

/-! ## Invariants -/

/-- The line equals the pure function of the registers (41_interrupt_aggregator.md R147). -/
def State.lineInv (s : State) : Prop := s.dev.irq = line s.dev.reg

/-- The memory is in its canonical form and lists no address outside the region
(44_memory_shim.md R196; log entry 7). -/
def State.memInv (s : State) : Prop :=
  s.dev.mem.wf = true ∧ s.dev.mem.within s.cfg.regionSize = true

/-- Every channel's bytes per pixel is 1, 2 or 4 (10_state.md R35). -/
def State.bppInv (s : State) : Prop :=
  ∀ c : ChanId, (s.dev.channel c).d3d.bytesPerPixel ∈ [(1 : Word), 2, 4]

/-- A safe step: it answers a next state, with neither a fault nor a refusal (60_exceptions.md R210). -/
def State.stepCompletes (s : State) : Prop := ∃ t, step s = .next t

/-! ## What is left unchanged -/

/-- Every register but the listed ones is unchanged. -/
def RegsKept (s t : State) (written : List Reg) : Prop :=
  ∀ r, r ∉ written → t.dev.reg.get r = s.dev.reg.get r

/-- Every channel but the listed ones is unchanged, every field of it. -/
def ChannelsKept (s t : State) (written : List ChanId) : Prop :=
  ∀ c, c ∉ written → t.dev.channel c = s.dev.channel c

/-- Every byte of the memory outside the `n` bytes at `addr` reads as before. -/
def BytesKept (s t : State) (addr n : Nat) : Prop :=
  ∀ a, ¬ (addr ≤ a ∧ a < addr + n) → t.dev.mem.read a = s.dev.mem.read a

/-- Every byte of the memory reads as before. -/
def MemoryKept (s t : State) : Prop := ∀ a, t.dev.mem.read a = s.dev.mem.read a

/-- The line has not been driven and no output event emitted. -/
def OutputsKept (s t : State) : Prop := t.dev.irq = s.dev.irq ∧ t.dev.out = s.dev.out

/-- The parameters and the transactions still to come are unchanged. -/
def EnvKept (s t : State) : Prop := t.cfg = s.cfg ∧ t.env = s.env

/-- `UpdateIrq()` has run at the end of the transaction: the line is driven to the level of the registers
it leaves, and the level is recorded (41_interrupt_aggregator.md R142). -/
def LineDriven (s t : State) : Prop :=
  t.dev.irq = line t.dev.reg ∧ t.dev.out = s.dev.out ++ [.irqLevel (line t.dev.reg)]

/-- Only the listed registers may have changed: channels, memory, outputs and environment are as before. -/
def OnlyRegs (s t : State) (written : List Reg) : Prop :=
  RegsKept s t written ∧ ChannelsKept s t [] ∧ MemoryKept s t ∧ OutputsKept s t ∧ EnvKept s t

/-- Only the listed registers may have changed, and the line has been driven. -/
def OnlyRegsAndLine (s t : State) (written : List Reg) : Prop :=
  RegsKept s t written ∧ ChannelsKept s t [] ∧ MemoryKept s t ∧ LineDriven s t ∧ EnvKept s t

/-- In channel `c` the D3DState has become `x`; its 2D-surface state and its bindings, every other channel,
every register, every byte of memory and the environment are as before. -/
def OnlyD3d (s t : State) (c : ChanId) (x : D3DState) : Prop :=
  (t.dev.channel c).d3d = x ∧ (t.dev.channel c).surf2d = (s.dev.channel c).surf2d ∧
  (t.dev.channel c).bind = (s.dev.channel c).bind ∧
  RegsKept s t [] ∧ ChannelsKept s t [c] ∧ MemoryKept s t ∧ EnvKept s t

/-- In channel `c` the Surf2DState has become `x`; its D3DState and its bindings, every other channel, every
register, every byte of memory, the outputs and the environment are as before. -/
def OnlySurf2d (s t : State) (c : ChanId) (x : Surf2DState) : Prop :=
  (t.dev.channel c).surf2d = x ∧ (t.dev.channel c).d3d = (s.dev.channel c).d3d ∧
  (t.dev.channel c).bind = (s.dev.channel c).bind ∧
  RegsKept s t [] ∧ ChannelsKept s t [c] ∧ MemoryKept s t ∧ OutputsKept s t ∧ EnvKept s t

/-- Only the `n` bytes at `addr` may have changed: registers, channels, every other byte, the outputs and
the environment are as before. -/
def OnlyBytes (s t : State) (addr n : Nat) : Prop :=
  RegsKept s t [] ∧ ChannelsKept s t [] ∧ BytesKept s t addr n ∧ OutputsKept s t ∧ EnvKept s t

/-! ## Running a list of operations -/

/-- The state after a list of operations run one after another, if each completes. -/
def runOps : List Instr → State → Option State
  | [], s => some s
  | i :: is, s =>
    match exec i s with
    | .next t => runOps is t
    | .fault _ => none
    | .refused _ => none

/-! ## Kinds of operations -/

end Sys2Proof.Machine

namespace Sys2Proof

/-- The event inputs (41_interrupt_aggregator.md R144, R145). -/
def Instr.isEvent : Instr → Bool
  | .rdMcIntr => false
  | .wrMcIntr _ => false
  | .rdMcIntrEn => false
  | .wrMcIntrEn _ => false
  | .rdMcEnable => false
  | .wrMcEnable _ => false
  | .rdBusIntr => false
  | .wrBusIntr _ => false
  | .rdBusIntrEn => false
  | .wrBusIntrEn _ => false
  | .rdFifoIntr => false
  | .wrFifoIntr _ => false
  | .rdFifoIntrEn => false
  | .wrFifoIntrEn _ => false
  | .rdFifoRamht => false
  | .wrFifoRamht _ => false
  | .rdFifoRamfc => false
  | .wrFifoRamfc _ => false
  | .rdFifoRamro => false
  | .wrFifoRamro _ => false
  | .rdFifoMode => false
  | .wrFifoMode _ => false
  | .rdCache1Push1 => false
  | .wrCache1Push1 _ => false
  | .rdCache1Put => false
  | .wrCache1Put _ => false
  | .rdCache1DmaPush => false
  | .wrCache1DmaPush _ => false
  | .rdCache1DmaInstance => false
  | .wrCache1DmaInstance _ => false
  | .rdCache1DmaPut => false
  | .wrCache1DmaPut _ => false
  | .rdCache1DmaGet => false
  | .wrCache1DmaGet _ => false
  | .rdCache1RefCnt => false
  | .wrCache1RefCnt _ => false
  | .rdCache1Pull => false
  | .wrCache1Pull _ => false
  | .rdCache1Semaphore => false
  | .wrCache1Semaphore _ => false
  | .rdBadsize _ _ => false
  | .wrBadsize _ _ _ => false
  | .rdOor _ => false
  | .wrOor _ _ => false
  | .rdUnknown _ => false
  | .wrUnknown _ _ => false
  | .raminRd _ _ => false
  | .raminWr _ _ _ => false
  | .read32 _ _ => false
  | .write32 _ _ _ => false
  | .cmd _ _ _ _ _ => false
  | .d3dcmd _ _ _ => false
  | .cmdBadchid _ _ _ _ _ => false
  | .cmdBadsubc _ _ _ _ _ => false
  | .kelvinSemaphoreObject _ _ _ _ => false
  | .kelvinSemaphoreOffset _ _ _ _ => false
  | .kelvinClipHorizontal _ _ _ _ => false
  | .kelvinClipVertical _ _ _ _ => false
  | .kelvinSurfaceFormat _ _ _ _ => false
  | .kelvinSurfacePitch _ _ _ _ => false
  | .kelvinSurfaceColorOffset _ _ _ _ => false
  | .kelvinClearSurface _ _ _ _ => false
  | .kelvinColorClearValue _ _ _ _ => false
  | .kelvinSemaphoreAcquire _ _ _ _ => false
  | .kelvinUnknown _ _ _ _ => false
  | .surf2dFormat _ _ _ _ _ => false
  | .surf2dPitch _ _ _ _ _ => false
  | .surf2dOffsetSrc _ _ _ _ _ => false
  | .surf2dOffsetDst _ _ _ _ _ => false
  | .surf2dUnknown _ _ _ _ _ => false
  | .gdiAny _ _ _ _ _ => false
  | .m2mfAny _ _ _ _ _ => false
  | .ifcAny _ _ _ _ _ => false
  | .classUnknown _ _ _ _ _ => false
  | .eventBus _ => true
  | .eventFifo _ => true
  | .reset => false
  | .kick => false

/-- The operations that read: of a register, of instance memory, of the region (20_memory.md R55). -/
def Instr.isRead : Instr → Bool
  | .rdMcIntr => true
  | .wrMcIntr _ => false
  | .rdMcIntrEn => true
  | .wrMcIntrEn _ => false
  | .rdMcEnable => true
  | .wrMcEnable _ => false
  | .rdBusIntr => true
  | .wrBusIntr _ => false
  | .rdBusIntrEn => true
  | .wrBusIntrEn _ => false
  | .rdFifoIntr => true
  | .wrFifoIntr _ => false
  | .rdFifoIntrEn => true
  | .wrFifoIntrEn _ => false
  | .rdFifoRamht => true
  | .wrFifoRamht _ => false
  | .rdFifoRamfc => true
  | .wrFifoRamfc _ => false
  | .rdFifoRamro => true
  | .wrFifoRamro _ => false
  | .rdFifoMode => true
  | .wrFifoMode _ => false
  | .rdCache1Push1 => true
  | .wrCache1Push1 _ => false
  | .rdCache1Put => true
  | .wrCache1Put _ => false
  | .rdCache1DmaPush => true
  | .wrCache1DmaPush _ => false
  | .rdCache1DmaInstance => true
  | .wrCache1DmaInstance _ => false
  | .rdCache1DmaPut => true
  | .wrCache1DmaPut _ => false
  | .rdCache1DmaGet => true
  | .wrCache1DmaGet _ => false
  | .rdCache1RefCnt => true
  | .wrCache1RefCnt _ => false
  | .rdCache1Pull => true
  | .wrCache1Pull _ => false
  | .rdCache1Semaphore => true
  | .wrCache1Semaphore _ => false
  | .rdBadsize _ _ => true
  | .wrBadsize _ _ _ => false
  | .rdOor _ => true
  | .wrOor _ _ => false
  | .rdUnknown _ => true
  | .wrUnknown _ _ => false
  | .raminRd _ _ => true
  | .raminWr _ _ _ => false
  | .read32 _ _ => true
  | .write32 _ _ _ => false
  | .cmd _ _ _ _ _ => false
  | .d3dcmd _ _ _ => false
  | .cmdBadchid _ _ _ _ _ => false
  | .cmdBadsubc _ _ _ _ _ => false
  | .kelvinSemaphoreObject _ _ _ _ => false
  | .kelvinSemaphoreOffset _ _ _ _ => false
  | .kelvinClipHorizontal _ _ _ _ => false
  | .kelvinClipVertical _ _ _ _ => false
  | .kelvinSurfaceFormat _ _ _ _ => false
  | .kelvinSurfacePitch _ _ _ _ => false
  | .kelvinSurfaceColorOffset _ _ _ _ => false
  | .kelvinClearSurface _ _ _ _ => false
  | .kelvinColorClearValue _ _ _ _ => false
  | .kelvinSemaphoreAcquire _ _ _ _ => false
  | .kelvinUnknown _ _ _ _ => false
  | .surf2dFormat _ _ _ _ _ => false
  | .surf2dPitch _ _ _ _ _ => false
  | .surf2dOffsetSrc _ _ _ _ _ => false
  | .surf2dOffsetDst _ _ _ _ _ => false
  | .surf2dUnknown _ _ _ _ _ => false
  | .gdiAny _ _ _ _ _ => false
  | .m2mfAny _ _ _ _ _ => false
  | .ifcAny _ _ _ _ _ => false
  | .classUnknown _ _ _ _ _ => false
  | .eventBus _ => false
  | .eventFifo _ => false
  | .reset => false
  | .kick => false

/-- The reset operation (70_reset_and_hazards.md R230). -/
def Instr.isReset : Instr → Bool
  | .rdMcIntr => false
  | .wrMcIntr _ => false
  | .rdMcIntrEn => false
  | .wrMcIntrEn _ => false
  | .rdMcEnable => false
  | .wrMcEnable _ => false
  | .rdBusIntr => false
  | .wrBusIntr _ => false
  | .rdBusIntrEn => false
  | .wrBusIntrEn _ => false
  | .rdFifoIntr => false
  | .wrFifoIntr _ => false
  | .rdFifoIntrEn => false
  | .wrFifoIntrEn _ => false
  | .rdFifoRamht => false
  | .wrFifoRamht _ => false
  | .rdFifoRamfc => false
  | .wrFifoRamfc _ => false
  | .rdFifoRamro => false
  | .wrFifoRamro _ => false
  | .rdFifoMode => false
  | .wrFifoMode _ => false
  | .rdCache1Push1 => false
  | .wrCache1Push1 _ => false
  | .rdCache1Put => false
  | .wrCache1Put _ => false
  | .rdCache1DmaPush => false
  | .wrCache1DmaPush _ => false
  | .rdCache1DmaInstance => false
  | .wrCache1DmaInstance _ => false
  | .rdCache1DmaPut => false
  | .wrCache1DmaPut _ => false
  | .rdCache1DmaGet => false
  | .wrCache1DmaGet _ => false
  | .rdCache1RefCnt => false
  | .wrCache1RefCnt _ => false
  | .rdCache1Pull => false
  | .wrCache1Pull _ => false
  | .rdCache1Semaphore => false
  | .wrCache1Semaphore _ => false
  | .rdBadsize _ _ => false
  | .wrBadsize _ _ _ => false
  | .rdOor _ => false
  | .wrOor _ _ => false
  | .rdUnknown _ => false
  | .wrUnknown _ _ => false
  | .raminRd _ _ => false
  | .raminWr _ _ _ => false
  | .read32 _ _ => false
  | .write32 _ _ _ => false
  | .cmd _ _ _ _ _ => false
  | .d3dcmd _ _ _ => false
  | .cmdBadchid _ _ _ _ _ => false
  | .cmdBadsubc _ _ _ _ _ => false
  | .kelvinSemaphoreObject _ _ _ _ => false
  | .kelvinSemaphoreOffset _ _ _ _ => false
  | .kelvinClipHorizontal _ _ _ _ => false
  | .kelvinClipVertical _ _ _ _ => false
  | .kelvinSurfaceFormat _ _ _ _ => false
  | .kelvinSurfacePitch _ _ _ _ => false
  | .kelvinSurfaceColorOffset _ _ _ _ => false
  | .kelvinClearSurface _ _ _ _ => false
  | .kelvinColorClearValue _ _ _ _ => false
  | .kelvinSemaphoreAcquire _ _ _ _ => false
  | .kelvinUnknown _ _ _ _ => false
  | .surf2dFormat _ _ _ _ _ => false
  | .surf2dPitch _ _ _ _ _ => false
  | .surf2dOffsetSrc _ _ _ _ _ => false
  | .surf2dOffsetDst _ _ _ _ _ => false
  | .surf2dUnknown _ _ _ _ _ => false
  | .gdiAny _ _ _ _ _ => false
  | .m2mfAny _ _ _ _ _ => false
  | .ifcAny _ _ _ _ _ => false
  | .classUnknown _ _ _ _ _ => false
  | .eventBus _ => false
  | .eventFifo _ => false
  | .reset => true
  | .kick => false

/-- The operations that call `UpdateIrq()` (41_interrupt_aggregator.md R143). -/
def Instr.drivesLine : Instr → Bool
  | .rdMcIntr => false
  | .wrMcIntr _ => true
  | .rdMcIntrEn => false
  | .wrMcIntrEn _ => true
  | .rdMcEnable => false
  | .wrMcEnable _ => false
  | .rdBusIntr => false
  | .wrBusIntr _ => true
  | .rdBusIntrEn => false
  | .wrBusIntrEn _ => true
  | .rdFifoIntr => false
  | .wrFifoIntr _ => true
  | .rdFifoIntrEn => false
  | .wrFifoIntrEn _ => true
  | .rdFifoRamht => false
  | .wrFifoRamht _ => false
  | .rdFifoRamfc => false
  | .wrFifoRamfc _ => false
  | .rdFifoRamro => false
  | .wrFifoRamro _ => false
  | .rdFifoMode => false
  | .wrFifoMode _ => false
  | .rdCache1Push1 => false
  | .wrCache1Push1 _ => false
  | .rdCache1Put => false
  | .wrCache1Put _ => false
  | .rdCache1DmaPush => false
  | .wrCache1DmaPush _ => false
  | .rdCache1DmaInstance => false
  | .wrCache1DmaInstance _ => false
  | .rdCache1DmaPut => false
  | .wrCache1DmaPut _ => false
  | .rdCache1DmaGet => false
  | .wrCache1DmaGet _ => false
  | .rdCache1RefCnt => false
  | .wrCache1RefCnt _ => false
  | .rdCache1Pull => false
  | .wrCache1Pull _ => false
  | .rdCache1Semaphore => false
  | .wrCache1Semaphore _ => false
  | .rdBadsize _ _ => false
  | .wrBadsize _ _ _ => false
  | .rdOor _ => false
  | .wrOor _ _ => false
  | .rdUnknown _ => false
  | .wrUnknown _ _ => false
  | .raminRd _ _ => false
  | .raminWr _ _ _ => false
  | .read32 _ _ => false
  | .write32 _ _ _ => false
  | .cmd _ _ _ _ _ => false
  | .d3dcmd _ _ _ => false
  | .cmdBadchid _ _ _ _ _ => false
  | .cmdBadsubc _ _ _ _ _ => false
  | .kelvinSemaphoreObject _ _ _ _ => false
  | .kelvinSemaphoreOffset _ _ _ _ => false
  | .kelvinClipHorizontal _ _ _ _ => false
  | .kelvinClipVertical _ _ _ _ => false
  | .kelvinSurfaceFormat _ _ _ _ => false
  | .kelvinSurfacePitch _ _ _ _ => false
  | .kelvinSurfaceColorOffset _ _ _ _ => false
  | .kelvinClearSurface _ _ _ _ => false
  | .kelvinColorClearValue _ _ _ _ => false
  | .kelvinSemaphoreAcquire _ _ _ _ => false
  | .kelvinUnknown _ _ _ _ => false
  | .surf2dFormat _ _ _ _ _ => false
  | .surf2dPitch _ _ _ _ _ => false
  | .surf2dOffsetSrc _ _ _ _ _ => false
  | .surf2dOffsetDst _ _ _ _ _ => false
  | .surf2dUnknown _ _ _ _ _ => false
  | .gdiAny _ _ _ _ _ => false
  | .m2mfAny _ _ _ _ _ => false
  | .ifcAny _ _ _ _ _ => false
  | .classUnknown _ _ _ _ _ => false
  | .eventBus _ => true
  | .eventFifo _ => true
  | .reset => true
  | .kick => false

/-- The operations that can run a kick (40_register_frontend.md R125, 42_command_dispatcher.md R163). -/
def Instr.mayKick : Instr → Bool
  | .rdMcIntr => false
  | .wrMcIntr _ => false
  | .rdMcIntrEn => false
  | .wrMcIntrEn _ => false
  | .rdMcEnable => false
  | .wrMcEnable _ => false
  | .rdBusIntr => false
  | .wrBusIntr _ => false
  | .rdBusIntrEn => false
  | .wrBusIntrEn _ => false
  | .rdFifoIntr => false
  | .wrFifoIntr _ => false
  | .rdFifoIntrEn => false
  | .wrFifoIntrEn _ => false
  | .rdFifoRamht => false
  | .wrFifoRamht _ => false
  | .rdFifoRamfc => false
  | .wrFifoRamfc _ => false
  | .rdFifoRamro => false
  | .wrFifoRamro _ => false
  | .rdFifoMode => false
  | .wrFifoMode _ => false
  | .rdCache1Push1 => false
  | .wrCache1Push1 _ => false
  | .rdCache1Put => false
  | .wrCache1Put _ => true
  | .rdCache1DmaPush => false
  | .wrCache1DmaPush _ => false
  | .rdCache1DmaInstance => false
  | .wrCache1DmaInstance _ => false
  | .rdCache1DmaPut => false
  | .wrCache1DmaPut _ => false
  | .rdCache1DmaGet => false
  | .wrCache1DmaGet _ => false
  | .rdCache1RefCnt => false
  | .wrCache1RefCnt _ => false
  | .rdCache1Pull => false
  | .wrCache1Pull _ => false
  | .rdCache1Semaphore => false
  | .wrCache1Semaphore _ => false
  | .rdBadsize _ _ => false
  | .wrBadsize _ _ _ => false
  | .rdOor _ => false
  | .wrOor _ _ => false
  | .rdUnknown _ => false
  | .wrUnknown _ _ => false
  | .raminRd _ _ => false
  | .raminWr _ _ _ => false
  | .read32 _ _ => false
  | .write32 _ _ _ => false
  | .cmd _ _ _ _ _ => false
  | .d3dcmd _ _ _ => false
  | .cmdBadchid _ _ _ _ _ => false
  | .cmdBadsubc _ _ _ _ _ => false
  | .kelvinSemaphoreObject _ _ _ _ => false
  | .kelvinSemaphoreOffset _ _ _ _ => false
  | .kelvinClipHorizontal _ _ _ _ => false
  | .kelvinClipVertical _ _ _ _ => false
  | .kelvinSurfaceFormat _ _ _ _ => false
  | .kelvinSurfacePitch _ _ _ _ => false
  | .kelvinSurfaceColorOffset _ _ _ _ => false
  | .kelvinClearSurface _ _ _ _ => false
  | .kelvinColorClearValue _ _ _ _ => false
  | .kelvinSemaphoreAcquire _ _ _ _ => false
  | .kelvinUnknown _ _ _ _ => false
  | .surf2dFormat _ _ _ _ _ => false
  | .surf2dPitch _ _ _ _ _ => false
  | .surf2dOffsetSrc _ _ _ _ _ => false
  | .surf2dOffsetDst _ _ _ _ _ => false
  | .surf2dUnknown _ _ _ _ _ => false
  | .gdiAny _ _ _ _ _ => false
  | .m2mfAny _ _ _ _ _ => false
  | .ifcAny _ _ _ _ _ => false
  | .classUnknown _ _ _ _ _ => false
  | .eventBus _ => false
  | .eventFifo _ => false
  | .reset => false
  | .kick => true

/-- The operations that can reach the shim's writes (10_state.md R39): the two writes, the semaphore
method, the entry points that lead to it, and a kick. -/
def Instr.mayStore : Instr → Bool
  | .rdMcIntr => false
  | .wrMcIntr _ => false
  | .rdMcIntrEn => false
  | .wrMcIntrEn _ => false
  | .rdMcEnable => false
  | .wrMcEnable _ => false
  | .rdBusIntr => false
  | .wrBusIntr _ => false
  | .rdBusIntrEn => false
  | .wrBusIntrEn _ => false
  | .rdFifoIntr => false
  | .wrFifoIntr _ => false
  | .rdFifoIntrEn => false
  | .wrFifoIntrEn _ => false
  | .rdFifoRamht => false
  | .wrFifoRamht _ => false
  | .rdFifoRamfc => false
  | .wrFifoRamfc _ => false
  | .rdFifoRamro => false
  | .wrFifoRamro _ => false
  | .rdFifoMode => false
  | .wrFifoMode _ => false
  | .rdCache1Push1 => false
  | .wrCache1Push1 _ => false
  | .rdCache1Put => false
  | .wrCache1Put _ => true
  | .rdCache1DmaPush => false
  | .wrCache1DmaPush _ => false
  | .rdCache1DmaInstance => false
  | .wrCache1DmaInstance _ => false
  | .rdCache1DmaPut => false
  | .wrCache1DmaPut _ => false
  | .rdCache1DmaGet => false
  | .wrCache1DmaGet _ => false
  | .rdCache1RefCnt => false
  | .wrCache1RefCnt _ => false
  | .rdCache1Pull => false
  | .wrCache1Pull _ => false
  | .rdCache1Semaphore => false
  | .wrCache1Semaphore _ => false
  | .rdBadsize _ _ => false
  | .wrBadsize _ _ _ => false
  | .rdOor _ => false
  | .wrOor _ _ => false
  | .rdUnknown _ => false
  | .wrUnknown _ _ => false
  | .raminRd _ _ => false
  | .raminWr _ _ _ => true
  | .read32 _ _ => false
  | .write32 _ _ _ => true
  | .cmd _ _ _ _ _ => true
  | .d3dcmd _ _ _ => true
  | .cmdBadchid _ _ _ _ _ => false
  | .cmdBadsubc _ _ _ _ _ => false
  | .kelvinSemaphoreObject _ _ _ _ => false
  | .kelvinSemaphoreOffset _ _ _ _ => false
  | .kelvinClipHorizontal _ _ _ _ => false
  | .kelvinClipVertical _ _ _ _ => false
  | .kelvinSurfaceFormat _ _ _ _ => false
  | .kelvinSurfacePitch _ _ _ _ => false
  | .kelvinSurfaceColorOffset _ _ _ _ => false
  | .kelvinClearSurface _ _ _ _ => false
  | .kelvinColorClearValue _ _ _ _ => false
  | .kelvinSemaphoreAcquire _ _ _ _ => true
  | .kelvinUnknown _ _ _ _ => false
  | .surf2dFormat _ _ _ _ _ => false
  | .surf2dPitch _ _ _ _ _ => false
  | .surf2dOffsetSrc _ _ _ _ _ => false
  | .surf2dOffsetDst _ _ _ _ _ => false
  | .surf2dUnknown _ _ _ _ _ => false
  | .gdiAny _ _ _ _ _ => false
  | .m2mfAny _ _ _ _ _ => false
  | .ifcAny _ _ _ _ _ => false
  | .classUnknown _ _ _ _ _ => false
  | .eventBus _ => false
  | .eventFifo _ => false
  | .reset => false
  | .kick => true

/-- The channel an operation acts on, if it acts on one (10_state.md R33). -/
def Instr.targetChannel (f : Machine.RegFile) : Instr → Option ChanId
  | .rdMcIntr => none
  | .wrMcIntr _ => none
  | .rdMcIntrEn => none
  | .wrMcIntrEn _ => none
  | .rdMcEnable => none
  | .wrMcEnable _ => none
  | .rdBusIntr => none
  | .wrBusIntr _ => none
  | .rdBusIntrEn => none
  | .wrBusIntrEn _ => none
  | .rdFifoIntr => none
  | .wrFifoIntr _ => none
  | .rdFifoIntrEn => none
  | .wrFifoIntrEn _ => none
  | .rdFifoRamht => none
  | .wrFifoRamht _ => none
  | .rdFifoRamfc => none
  | .wrFifoRamfc _ => none
  | .rdFifoRamro => none
  | .wrFifoRamro _ => none
  | .rdFifoMode => none
  | .wrFifoMode _ => none
  | .rdCache1Push1 => none
  | .wrCache1Push1 _ => none
  | .rdCache1Put => none
  | .wrCache1Put _ => if Machine.pushEnabled f then chanOf (Machine.kickChid f) else none
  | .rdCache1DmaPush => none
  | .wrCache1DmaPush _ => none
  | .rdCache1DmaInstance => none
  | .wrCache1DmaInstance _ => none
  | .rdCache1DmaPut => none
  | .wrCache1DmaPut _ => none
  | .rdCache1DmaGet => none
  | .wrCache1DmaGet _ => none
  | .rdCache1RefCnt => none
  | .wrCache1RefCnt _ => none
  | .rdCache1Pull => none
  | .wrCache1Pull _ => none
  | .rdCache1Semaphore => none
  | .wrCache1Semaphore _ => none
  | .rdBadsize _ _ => none
  | .wrBadsize _ _ _ => none
  | .rdOor _ => none
  | .wrOor _ _ => none
  | .rdUnknown _ => none
  | .wrUnknown _ _ => none
  | .raminRd _ _ => none
  | .raminWr _ _ _ => none
  | .read32 _ _ => none
  | .write32 _ _ _ => none
  | .cmd chid _ _ _ _ => chanOf chid
  | .d3dcmd chid _ _ => chanOf chid
  | .cmdBadchid _ _ _ _ _ => none
  | .cmdBadsubc _ _ _ _ _ => none
  | .kelvinSemaphoreObject _ chid _ _ => some chid
  | .kelvinSemaphoreOffset _ chid _ _ => some chid
  | .kelvinClipHorizontal _ chid _ _ => some chid
  | .kelvinClipVertical _ chid _ _ => some chid
  | .kelvinSurfaceFormat _ chid _ _ => some chid
  | .kelvinSurfacePitch _ chid _ _ => some chid
  | .kelvinSurfaceColorOffset _ chid _ _ => some chid
  | .kelvinClearSurface _ chid _ _ => some chid
  | .kelvinColorClearValue _ chid _ _ => some chid
  | .kelvinSemaphoreAcquire _ chid _ _ => some chid
  | .kelvinUnknown _ chid _ _ => some chid
  | .surf2dFormat chid _ _ _ _ => some chid
  | .surf2dPitch chid _ _ _ _ => some chid
  | .surf2dOffsetSrc chid _ _ _ _ => some chid
  | .surf2dOffsetDst chid _ _ _ _ => some chid
  | .surf2dUnknown chid _ _ _ _ => some chid
  | .gdiAny chid _ _ _ _ => some chid
  | .m2mfAny chid _ _ _ _ => some chid
  | .ifcAny chid _ _ _ _ => some chid
  | .classUnknown chid _ _ _ _ => some chid
  | .eventBus _ => none
  | .eventFifo _ => none
  | .reset => none
  | .kick => chanOf (Machine.kickChid f)

end Sys2Proof
end

