-- ==== Sys2Proof/Certificates/Slice0/Obligations.lean ====
section
/-! DEFINITION. The statements for the provers. Each says what a rule of spec/ says an operation or the
machine does; the shapes that several of them share come first. -/

namespace Sys2Proof.Machine

/-! ## Shapes -/

/-- The 4-byte read of `addr` is the operation `i`, which returns the stored value of `r` and changes
nothing. -/
def ReadsRegister (addr : Word) (i : Instr) (r : Reg) : Prop :=
  ∀ (c : Config) (s : State), decode c (.mmioRead addr 4) = i ∧
    exec i s = .next { s with ret := .word (s.dev.reg.get r) }

/-- The 4-byte write of `addr` is the operation `i`, which stores all 32 bits in `r`, returns nothing and
changes nothing else. -/
def StoresRegister (addr : Word) (i : Word → Instr) (r : Reg) : Prop :=
  ∀ (c : Config) (v : Word) (s : State), decode c (.mmioWrite addr 4 v) = i v ∧
    ∃ t, exec (i v) s = .next t ∧ t.dev.reg.get r = v ∧ t.ret = .none ∧ OnlyRegs s t [r]

/-- The 4-byte write of `addr` is the operation `i`, which leaves `new old v` in `r`, re-drives the line,
returns nothing and changes nothing else. -/
def DrivesRegister (addr : Word) (i : Word → Instr) (r : Reg) (new : Word → Word → Word) : Prop :=
  ∀ (c : Config) (v : Word) (s : State), decode c (.mmioWrite addr 4 v) = i v ∧
    ∃ t, exec (i v) s = .next t ∧ t.dev.reg.get r = new (s.dev.reg.get r) v ∧ t.ret = .none ∧
      OnlyRegsAndLine s t [r]

/-- A record that enters the 3D engine with a code of `m` is the operation `i`. -/
def IsKelvinRow (m : Option D3DMethod) (i : Entry → ChanId → Word → Word → Instr) : Prop :=
  ∀ (cfg : Config) (via : Entry) (c : ChanId) (code p : Word), entersKelvin cfg via = true →
    cfg.d3dMethodOf code = m → decode cfg (via.record c code p) = i via c code p

/-- The row of the 3D method `m` writes the D3DState of its channel by `upd`, succeeds, and changes and
emits nothing else. -/
def SetsD3d (m : D3DMethod) (i : Entry → ChanId → Word → Word → Instr)
    (upd : D3DState → Word → D3DState) : Prop :=
  IsKelvinRow (some m) i ∧
  ∀ (via : Entry) (c : ChanId) (code p : Word) (s : State), ∃ t, exec (i via c code p) s = .next t ∧
    OnlyD3d s t c (upd (s.dev.channel c).d3d p) ∧ OutputsKept s t ∧ t.ret = .success true

/-- A `CMD` record with checked ids, a tag of class `k` and, where `m` asks it, a method code that satisfies
`m`, is the operation `i`. -/
def IsCmdRow (k : Option EngineClass) (m : Config → Word → Prop)
    (i : ChanId → SubId → Word → Word → Word → Instr) : Prop :=
  ∀ (cfg : Config) (c : ChanId) (u : SubId) (cls code p : Word), cfg.classOf cls = k → m cfg code →
    decode cfg (cmdRecord c u cls code p) = i c u cls code p

/-- The row of the 2D-surface method `m` writes the Surf2DState of its channel by `upd`, succeeds, and
changes and emits nothing else. -/
def SetsSurf2d (m : Surf2DMethod) (i : ChanId → SubId → Word → Word → Word → Instr)
    (upd : Surf2DState → Word → Surf2DState) : Prop :=
  IsCmdRow (some .surf2d) (fun cfg code => cfg.surf2dMethodOf code = some m) i ∧
  ∀ (c : ChanId) (u : SubId) (cls code p : Word) (s : State), ∃ t,
    exec (i c u cls code p) s = .next t ∧ OnlySurf2d s t c (upd (s.dev.channel c).surf2d p) ∧
    t.ret = .success true

/-- The four bytes at `addr` hold `v` in the byte order `o`, `v[7:0]` first in little-endian order. -/
def HoldsWord (o : ByteOrder) (m : Memory) (addr : Nat) (v : Word) : Prop :=
  match o with
  | .little => m.read addr = v.extractLsb' 0 8 ∧ m.read (addr + 1) = v.extractLsb' 8 8 ∧
      m.read (addr + 2) = v.extractLsb' 16 8 ∧ m.read (addr + 3) = v.extractLsb' 24 8
  | .big => m.read addr = v.extractLsb' 24 8 ∧ m.read (addr + 1) = v.extractLsb' 16 8 ∧
      m.read (addr + 2) = v.extractLsb' 8 8 ∧ m.read (addr + 3) = v.extractLsb' 0 8

/-- What a command can be rejected for: a bad index, an unknown class, an unknown method. -/
def CmdRejected (cfg : Config) (chid subc cls code : Word) : Prop :=
  32 ≤ chid.toNat ∨ 8 ≤ subc.toNat ∨ cfg.classOf cls = none ∨
  (cfg.classOf cls = some .kelvin ∧ cfg.d3dMethodOf code = none) ∨
  (cfg.classOf cls = some .surf2d ∧ cfg.surf2dMethodOf code = none)

end Sys2Proof.Machine

open Sys2Proof Sys2Proof.Machine

/-! ## Decoding and stepping -/

/-- 30_encoding.md R70, R72 to R74, R78: records written out from the spec's formats and addresses name
their rows. The two clauses about `decodeTableWord` rest on the model's choice of log entry 1: the table
gives bits to the `addr` field alone and none to `dir` (R78), so the read row and the write row of a
register have one word, and the model reads it as a 4-byte read. That the environment presents events is the
spec's decision D5 (log entry 13). That 0x104, an address outside the twenty, is unknown is D2 (marked in
10_state.md R10; log entry 13, unsafe), and that linear accesses are transactions is D30 (log entry 13). -/
def Obligations.RecordsNameTheirRows : Prop :=
  decodeTableWord 32 0x00000100 = some .rdMcIntr ∧
  decodeTableWord 32 0x00003254 = some .rdCache1Semaphore ∧
  decode Config.launch (.mmioWrite 0x00003210 4 0x40) = .wrCache1Put 0x40 ∧
  decode Config.launch (.mmioRead 0x00000200 1) = .rdBadsize 0x200 1 ∧
  decode Config.launch (.mmioRead 0x01000200 4) = .rdOor 0x01000200 ∧
  decode Config.launch (.mmioWrite 0x00000104 4 7) = .wrUnknown 0x104 7 ∧
  decode Config.launch (.raminWrite 0x11 1 0x1ab) = .raminWr 0x11 1 0x1ab ∧
  decode Config.launch (.linRead 0x1000 0x20) = .read32 0x1000 0x20 ∧
  decode Config.launch (.cmd 32 0 0 0 0) = .cmdBadchid 32 0 0 0 0 ∧
  decode Config.launch (.cmd 31 8 0 0 0) = .cmdBadsubc 31 8 0 0 0 ∧
  decode Config.launch (.evtBus 0x10) = .eventBus 0x10 ∧
  decode Config.launch .rst = .reset

/-- 30_encoding.md R70, R73, R74: for every configuration, the record of every well-formed operation that is
no entry point decodes back to it, with every operand at every value; the record of an entry point selects
that entry point by its format. That the record is the whole encoding is the spec's own decision D1 (marked
in R70; log entry 1), and that an entry point is an operation beside the row it resolves to is the model's
reading (log entry 11). -/
def Obligations.DecodeOfEncodeIsTheOperation : Prop :=
  ∀ (c : Config) (i : Instr) (t : Transaction), i.wf c = true → encode i = some t →
    (i.isEntryPoint = false → decode c t = i) ∧ (i.isEntryPoint = true → entryPoint t = some i)

/-- 30_encoding.md R73, R79: every record has exactly one name: it decodes to a well-formed operation, whose
record it is and whose row admits its format, and no other well-formed operation has that record but an
entry point. That one name follows from the order of the checks, which is the spec's own decision D22
(marked in R73 and R74; log entry 13). That the row and not the entry point is the name that decode gives is
the model's reading (log entry 11). -/
def Obligations.EveryRecordHasOneName : Prop :=
  ∀ (c : Config) (t : Transaction), (decode c t).wf c = true ∧ encode (decode c t) = some t ∧
    t.format ∈ (decode c t).formats ∧ ∀ i, i.wf c = true → i.isEntryPoint = false →
      encode i = some t → (decode c t).isEntryPoint = false ∧ i = decode c t

/-- 30_encoding.md R72: the decode by bank selector and offset, which the spec derives, is the decode by the
flat list. That the list has the twenty registers and no other is the spec's own decision D2 (marked in
10_state.md R10; log entry 13). -/
def Obligations.BankDecodeIsFlatDecode : Prop := ∀ addr : Word, regAtBanked addr = regAt addr

/-- 00_scope.md R6, 10_state.md R48: a step takes the next record of the environment's list and runs the
operation that it decodes to, on the state without that record; with none it changes nothing. The list and
the idle step are the model's choice (log entry 2). -/
def Obligations.StepRunsTheDecodedOperation : Prop :=
  (∀ (s : State) (t : Transaction) (rest : List Transaction), s.env = t :: rest →
    step s = exec (decode s.cfg t) { s with env := rest }) ∧
  (∀ s : State, s.env = [] → step s = .next s)

/-- 30_encoding.md R78: an entry point does what the row that its record resolves to does. That both are
operations of the model is its reading (log entry 11). -/
def Obligations.EntryPointRunsItsRow : Prop :=
  ∀ (s : State) (chid subc cls code p : Word),
    exec (.cmd chid subc cls code p) s = exec (resolveCmd s.cfg chid subc cls code p) s ∧
    exec (.d3dcmd chid code p) s = exec (resolveD3dcmd s.cfg chid code p) s

/-- 30_encoding.md R82, which the spec derives: for an in-range channel, `d3d` has the effect of `cmd` with
class `KELVIN` on any in-range subchannel. -/
def Obligations.D3dcmdIsCmdToKelvin : Prop :=
  ∀ (s : State) (chid subc cls code p : Word), chid.toNat < 32 → subc.toNat < 8 →
    s.cfg.classOf cls = some .kelvin → ∃ t, exec (.d3dcmd chid code p) s = .next t ∧
      exec (.cmd chid subc cls code p) s = .next t

/-- 60_exceptions.md R210: every operation on every state completes, and so does every step. 00_scope.md R5:
no operation changes a parameter. That the parameters and the transactions still to come are fields of
State, and that an operation keeps those transactions, is the model's choice (log entries 4 and 2). -/
def Obligations.EveryOperationCompletes : Prop :=
  (∀ (i : Instr) (s : State), ∃ t, exec i s = .next t ∧ EnvKept s t) ∧
  (∀ s : State, s.stepCompletes)

/-! ## Register reads -/

/-- 40_register_frontend.md R102 to R120: a 4-byte read of the address of each stored master-control, bus
and FIFO register is that register's read operation, which returns the stored value, all 32 bits, and
changes nothing. That a read returns all 32 bits, with none masked or reserved, is the spec's own decision
D7 (10_state.md R12, R13, R15, R17 to R21; log entry 13). -/
def Obligations.BankRegistersRead : Prop :=
  ReadsRegister 0x000140 .rdMcIntrEn .mcIntrEn ∧ ReadsRegister 0x000200 .rdMcEnable .mcEnable ∧
  ReadsRegister 0x001100 .rdBusIntr .busIntr ∧ ReadsRegister 0x001140 .rdBusIntrEn .busIntrEn ∧
  ReadsRegister 0x002100 .rdFifoIntr .fifoIntr ∧ ReadsRegister 0x002140 .rdFifoIntrEn .fifoIntrEn ∧
  ReadsRegister 0x002210 .rdFifoRamht .fifoRamht ∧ ReadsRegister 0x002214 .rdFifoRamfc .fifoRamfc ∧
  ReadsRegister 0x002218 .rdFifoRamro .fifoRamro ∧ ReadsRegister 0x002504 .rdFifoMode .fifoMode

/-- 40_register_frontend.md R122 to R138: a 4-byte read of the address of each cache1 register is that
register's read operation, which returns the stored value, all 32 bits, and changes nothing. That a read
returns all 32 bits, with none masked or reserved, is the spec's own decision D7 (10_state.md R22 to R30;
log entry 13), and that `CACHE1_PUSH1` is the register at 0x003204 is D3 (marked in R22; log entry 13). -/
def Obligations.Cache1RegistersRead : Prop :=
  ReadsRegister 0x003204 .rdCache1Push1 .cache1Push1 ∧ ReadsRegister 0x003210 .rdCache1Put .cache1Put ∧
  ReadsRegister 0x003220 .rdCache1DmaPush .cache1DmaPush ∧
  ReadsRegister 0x003224 .rdCache1DmaInstance .cache1DmaInstance ∧
  ReadsRegister 0x003240 .rdCache1DmaPut .cache1DmaPut ∧
  ReadsRegister 0x003244 .rdCache1DmaGet .cache1DmaGet ∧
  ReadsRegister 0x003248 .rdCache1RefCnt .cache1RefCnt ∧
  ReadsRegister 0x003250 .rdCache1Pull .cache1Pull ∧
  ReadsRegister 0x003254 .rdCache1Semaphore .cache1Semaphore

/-- 40_register_frontend.md R100, 41_interrupt_aggregator.md R141: the read of `MC_INTR` returns the
aggregate word: bit 0 iff an enabled bus cause is latched, bit 8 iff an enabled FIFO cause is, every other
bit 0. That the value read is this word, not masked by `MC_INTR_EN`, is the spec's own decision D4 (marked
in R100; log entry 13). -/
def Obligations.McIntrReadsTheAggregateWord : Prop :=
  ∀ (c : Config) (s : State), decode c (.mmioRead 0x000100 4) = .rdMcIntr ∧
    ∃ v : Word, exec .rdMcIntr s = .next { s with ret := .word v } ∧
      (v.getLsbD 0 = true ↔ s.dev.reg.busIntr &&& s.dev.reg.busIntrEn ≠ 0) ∧
      (v.getLsbD 8 = true ↔ s.dev.reg.fifoIntr &&& s.dev.reg.fifoIntrEn ≠ 0) ∧
      ∀ k, k ≠ 0 → k ≠ 8 → v.getLsbD k = false

/-- 40_register_frontend.md R92 to R97: the six rejected accesses. A read returns 0, a write nothing; the
device is untouched. The spec's own decisions are three: that every in-range address but the twenty is
unknown is D2 (U7; log entry 13), that a size outside 1 to 4 is handled as 1, 2 and 3 are is D31 (log entry
19), that the size is checked first and the range before the address is D22 (log entry 13). -/
def Obligations.RejectedAccessesHaveNoEffect : Prop :=
  (∀ (c : Config) (s : State) (a : Word) (n : Nat) (v : Word),
    (n ≠ 4 → decode c (.mmioRead a n) = .rdBadsize a n ∧ decode c (.mmioWrite a n v) = .wrBadsize a n v) ∧
    exec (.rdBadsize a n) s = .next { s with ret := .word 0 } ∧
    exec (.wrBadsize a n v) s = .next { s with ret := .none }) ∧
  (∀ (c : Config) (s : State) (a v : Word),
    (0x1000000 ≤ a.toNat → decode c (.mmioRead a 4) = .rdOor a ∧ decode c (.mmioWrite a 4 v) = .wrOor a v) ∧
    exec (.rdOor a) s = .next { s with ret := .word 0 } ∧
    exec (.wrOor a v) s = .next { s with ret := .none }) ∧
  (∀ (c : Config) (s : State) (a v : Word),
    (a.toNat < 0x1000000 → (∀ r : MmioReg, a ≠ r.addr) →
      decode c (.mmioRead a 4) = .rdUnknown a ∧ decode c (.mmioWrite a 4 v) = .wrUnknown a v) ∧
    exec (.rdUnknown a) s = .next { s with ret := .word 0 } ∧
    exec (.wrUnknown a v) s = .next { s with ret := .none })

/-! ## Register writes -/

/-- 40_register_frontend.md R105, R115, R117, R119, R121: a 4-byte write of the address of each plain
register of the master-control and FIFO banks stores its value and returns nothing. That all 32 bits are
stored and that every other register, every channel, every byte, the line and the trace stay as they were
are the spec's own decisions D7 and D27 (log entry 13). -/
def Obligations.PlainBankRegistersStore : Prop :=
  StoresRegister 0x000200 .wrMcEnable .mcEnable ∧ StoresRegister 0x002210 .wrFifoRamht .fifoRamht ∧
  StoresRegister 0x002214 .wrFifoRamfc .fifoRamfc ∧ StoresRegister 0x002218 .wrFifoRamro .fifoRamro ∧
  StoresRegister 0x002504 .wrFifoMode .fifoMode

/-- 40_register_frontend.md R123, R127, R129, R131, R133, R135, R137, R139: a 4-byte write of the address of
each plain cache1 register stores its value and returns nothing. That all 32 bits are stored, that every
other register, every channel, every byte, the line and the trace stay as they were, and that none of them
kicks, are the spec's own decisions D7 and D27 (log entry 13). That `CACHE1_PUSH1` is the register at
0x003204 is D3 (marked in 10_state.md R22; log entry 13). -/
def Obligations.PlainCache1RegistersStore : Prop :=
  StoresRegister 0x003204 .wrCache1Push1 .cache1Push1 ∧
  StoresRegister 0x003220 .wrCache1DmaPush .cache1DmaPush ∧
  StoresRegister 0x003224 .wrCache1DmaInstance .cache1DmaInstance ∧
  StoresRegister 0x003240 .wrCache1DmaPut .cache1DmaPut ∧
  StoresRegister 0x003244 .wrCache1DmaGet .cache1DmaGet ∧
  StoresRegister 0x003248 .wrCache1RefCnt .cache1RefCnt ∧
  StoresRegister 0x003250 .wrCache1Pull .cache1Pull ∧
  StoresRegister 0x003254 .wrCache1Semaphore .cache1Semaphore

/-- 40_register_frontend.md R103, R109, R113: a 4-byte write of an interrupt enable stores its value, then
drives the line to the level of the registers it leaves and records that level; it returns nothing and
changes no other register, no channel and no byte. That all 32 bits are stored verbatim is the spec's own
decision D7 (marked in 10_state.md R12, R15, R17; log entry 13), and that one level is appended to the
trace, whatever the level was, is D24 (marked in 41_interrupt_aggregator.md R142; log entry 22). -/
def Obligations.EnablesStoreAndDriveTheLine : Prop :=
  DrivesRegister 0x000140 .wrMcIntrEn .mcIntrEn (fun _ v => v) ∧
  DrivesRegister 0x001140 .wrBusIntrEn .busIntrEn (fun _ v => v) ∧
  DrivesRegister 0x002140 .wrFifoIntrEn .fifoIntrEn (fun _ v => v)

/-- 40_register_frontend.md R107, R111: a 4-byte write of a latch clears the bits that are 1 in the value,
then drives the line to the level of the registers it leaves and records that level; it returns nothing and
changes no other register, no channel and no byte. That one level is appended to the trace, whatever the
level was, is the spec's own decision D24 (marked in 41_interrupt_aggregator.md R142; log entry 22). -/
def Obligations.LatchesClearByAndNot : Prop :=
  DrivesRegister 0x001100 .wrBusIntr .busIntr (fun old v => old &&& ~~~v) ∧
  DrivesRegister 0x002100 .wrFifoIntr .fifoIntr (fun old v => old &&& ~~~v)

/-- 40_register_frontend.md R101: a 4-byte write of `MC_INTR` clears the whole bus latch by bit 0 and the
whole FIFO latch by bit 8, ignores every other bit, drives the line and records its level; it returns
nothing and changes no other register, no channel and no byte. That a set bit clears the whole latch, and
that the other bits do nothing, is the spec's own decision D6 (marked in R101; U19; log entry 13, unsafe),
and the record of the level is D24 (log entry 22). -/
def Obligations.McIntrWriteClearsWholeLatches : Prop :=
  ∀ (c : Config) (v : Word) (s : State), decode c (.mmioWrite 0x000100 4 v) = .wrMcIntr v ∧
    ∃ t, exec (.wrMcIntr v) s = .next t ∧
      t.dev.reg.get .busIntr = (if v.getLsbD 0 then 0 else s.dev.reg.get .busIntr) ∧
      t.dev.reg.get .fifoIntr = (if v.getLsbD 8 then 0 else s.dev.reg.get .fifoIntr) ∧
      t.ret = .none ∧ OnlyRegsAndLine s t [.busIntr, .fifoIntr]

/-- 60_exceptions.md R218: writing `MC_INTR` again with the same value changes no register and leaves the
line at its level: up to the trace, acknowledging twice is acknowledging once. That the trace gains one more
level is the spec's own decision D24 (41_interrupt_aggregator.md R142; log entry 22). -/
def Obligations.McIntrAcknowledgeIsIdempotent : Prop :=
  ∀ (v : Word) (s t : State), exec (.wrMcIntr v) s = .next t →
    ∃ u, exec (.wrMcIntr v) t = .next u ∧ (∀ r, u.dev.reg.get r = t.dev.reg.get r) ∧
      u.dev.irq = t.dev.irq ∧ u.dev.out = t.dev.out ++ [.irqLevel t.dev.irq] ∧
      ChannelsKept t u [] ∧ MemoryKept t u ∧ EnvKept t u

/-- 40_register_frontend.md R125: a write of `CACHE1_PUT` stores the value; with bit 0 of `CACHE1_PUSH1` set
it then kicks in the same transaction, and otherwise it does nothing else. That the kick changes no register
and leaves the line at its level is the spec's own decision D13 (marked in 42_command_dispatcher.md R163;
log entry 13), and that neither `MC_ENABLE` nor `FIFO_MODE` gates it is D27 (marked in R125; log entry 13).
That the value is stored verbatim is D7 (10_state.md R23; log entry 13). -/
def Obligations.PutStoresThenKicksIfEnabled : Prop :=
  ∀ (c : Config) (v : Word) (s : State), decode c (.mmioWrite 0x003210 4 v) = .wrCache1Put v ∧
    (s.dev.reg.cache1Push1.getLsbD 0 = false → ∃ t, exec (.wrCache1Put v) s = .next t ∧
      t.dev.reg.get .cache1Put = v ∧ t.ret = .none ∧ OnlyRegs s t [.cache1Put]) ∧
    (s.dev.reg.cache1Push1.getLsbD 0 = true → ∃ t, exec (.wrCache1Put v) s = .next t ∧
      exec .kick { s with dev := s.dev.writeReg .cache1Put v } = .next t ∧
      t.dev.reg.get .cache1Put = v ∧ t.ret = .none ∧ RegsKept s t [.cache1Put] ∧
      t.dev.irq = s.dev.irq ∧ EnvKept s t)

/-! ## The FIFO kick -/

/-- 42_command_dispatcher.md R163, R164, a sentence that the spec derives: with the default `KickFetch`, the
whole effect of a kick is `semaphore_obj <- KICK_PARAM` in the channel named by bits 4:0 of `CACHE1_PUSH1`,
for every `KICK_PARAM`. That the default is this one pair with an open parameter, and that the kick itself
changes no register and drives no output, is the spec's own decision D13 (marked in R163; log entries 10 and
13). -/
def Obligations.StubKickSetsTheSemaphoreObject : Prop :=
  ∀ s : State, s.cfg.kickFetch = .stub → ∃ (c : ChanId) (t : State),
    c.val = s.dev.reg.cache1Push1.toNat % 32 ∧ exec .kick s = .next t ∧
    OnlyD3d s t c { (s.dev.channel c).d3d with semaphoreObj := s.cfg.kickParam } ∧
    OutputsKept s t ∧ t.ret = .none

/-- 42_command_dispatcher.md R163: whatever list `KickFetch` gives for the device, a kick leaves the device
that the 3D methods of the list leave, run on the channel named by bits 4:0 of `CACHE1_PUSH1` in the list's
order with the list's parameters, by name and so whatever their codes; it returns nothing and changes no
register. That the list is fetched once, on the device that the kick finds, is the model's reading (log
entry 9, unsafe). That a kick changes no register and does not drive the line is the spec's own decision D13
(marked in R163; log entry 13). -/
def Obligations.KickRunsItsCommandsInOrder : Prop :=
  ∀ (s : State) (code : Word), ∃ (c : ChanId) (t u : State),
    c.val = s.dev.reg.cache1Push1.toNat % 32 ∧ exec .kick s = .next t ∧
    runOps ((kickCommands s.cfg s.dev).map fun mp => kelvinRow .d3dcmd c code mp.2 (some mp.1)) s = some u ∧
    t.dev = u.dev ∧ t.ret = .none ∧ RegsKept s t [] ∧ t.dev.irq = s.dev.irq ∧ EnvKept s t

/-- 42_command_dispatcher.md R164, which the spec derives: no write of `CACHE1_PUT` changes a channel with
an even id, whatever `KickFetch` gives. It rests on the literal overlap of push enable and channel id
(90_conflicts.md C2; U9; log entry 13, unsafe). -/
def Obligations.EvenChannelsAreNeverKicked : Prop :=
  ∀ (v : Word) (s t : State), exec (.wrCache1Put v) s = .next t →
    ∀ c : ChanId, c.val % 2 = 0 → t.dev.channel c = s.dev.channel c

/-! ## Interrupts -/

/-- 41_interrupt_aggregator.md R144, R145: an event sets the latch bits of its mask and clears none, drives
the line to the level of the registers it leaves and records that level; it changes nothing else. The two
event transactions, their format and their effect are the spec's own decision D5 (30_encoding.md R70; log
entry 13), and the record of the level is D24 (log entry 22). -/
def Obligations.EventsSetLatchBits : Prop :=
  ∀ (c : Config) (mask : Word) (s : State),
    decode c (.evtBus mask) = .eventBus mask ∧ decode c (.evtFifo mask) = .eventFifo mask ∧
    (∃ t, exec (.eventBus mask) s = .next t ∧
      t.dev.reg.get .busIntr = s.dev.reg.get .busIntr ||| mask ∧ t.ret = .none ∧
      OnlyRegsAndLine s t [.busIntr]) ∧
    (∃ t, exec (.eventFifo mask) s = .next t ∧
      t.dev.reg.get .fifoIntr = s.dev.reg.get .fifoIntr ||| mask ∧ t.ret = .none ∧
      OnlyRegsAndLine s t [.fifoIntr])

/-- 10_state.md R31: no operation but an event sets a latch bit. -/
def Obligations.OnlyEventsSetLatchBits : Prop :=
  ∀ (i : Instr) (s t : State), i.isEvent = false → exec i s = .next t →
    t.dev.reg.busIntr &&& ~~~s.dev.reg.busIntr = 0 ∧ t.dev.reg.fifoIntr &&& ~~~s.dev.reg.fifoIntr = 0

/-- 41_interrupt_aggregator.md R142, in the form that the spec derives: the line is asserted iff an enabled
bus cause meets bit 0 of `MC_INTR_EN` or an enabled FIFO cause meets bit 8 of it. -/
def Obligations.LineIsTheMaskedAggregate : Prop :=
  ∀ f : RegFile, line f = true ↔
    (f.busIntr &&& f.busIntrEn ≠ 0 ∧ f.mcIntrEn.getLsbD 0 = true) ∨
    (f.fifoIntr &&& f.fifoIntrEn ≠ 0 ∧ f.mcIntrEn.getLsbD 8 = true)

/-- 41_interrupt_aggregator.md R146, which the spec derives: the two-level OR-tree computes the line. -/
def Obligations.OrTreeComputesTheLine : Prop := ∀ f : RegFile, lineTree f = line f

/-- 41_interrupt_aggregator.md R142, R143: exactly the named operations call `UpdateIrq()`: they drive the
line to the level of the registers they leave and record it; every other operation leaves the line alone and
records no level. R143 says which operations call it; that each call records a level in the trace, changed
or not, and that nothing else does, is the spec's own decision D24 (marked in R142; log entry 22), and that
events are among them is D5 (log entry 13). That reset drives the line is D19 (marked in
70_reset_and_hazards.md R230; log entries 13 and 20), and that a kick does not is D13 (marked in
42_command_dispatcher.md R163; log entry 13). -/
def Obligations.UpdateIrqRunsExactlyWhereNamed : Prop :=
  ∀ (i : Instr) (s t : State), exec i s = .next t →
    (i.drivesLine = true → LineDriven s t) ∧
    (i.drivesLine = false → t.dev.irq = s.dev.irq ∧
      ∃ es, t.dev.out = s.dev.out ++ es ∧ ∀ e ∈ es, e = .fullRedraw)

/-- 41_interrupt_aggregator.md R147, which the spec derives: between transactions the line equals the
function of the registers: every step keeps it, from every state that has it. -/
def Obligations.StepKeepsTheLine : Prop :=
  ∀ s t : State, s.lineInv → step s = .next t → t.lineInv

/-! ## The 3D engine -/

/-- 43_d3d_methods.md R171 to R174, R177, R178, R180: each of the seven config-only setters is reached by
`CMD` and by `D3DCMD` with any code of its method, stores the parameter verbatim in its field of its
channel, returns `true`, and changes no other field, channel, register or byte and emits nothing. -/
def Obligations.KelvinSettersStoreVerbatim : Prop :=
  SetsD3d .semaphoreObject .kelvinSemaphoreObject (fun x p => { x with semaphoreObj := p }) ∧
  SetsD3d .semaphoreOffset .kelvinSemaphoreOffset (fun x p => { x with semaphoreOffset := p }) ∧
  SetsD3d .clipHorizontal .kelvinClipHorizontal (fun x p => { x with clipHorizontal := p }) ∧
  SetsD3d .clipVertical .kelvinClipVertical (fun x p => { x with clipVertical := p }) ∧
  SetsD3d .surfacePitch .kelvinSurfacePitch (fun x p => { x with surfacePitch := p }) ∧
  SetsD3d .surfaceColorOffset .kelvinSurfaceColorOffset (fun x p => { x with surfaceColorOffset := p }) ∧
  SetsD3d .colorClearValue .kelvinColorClearValue (fun x p => { x with clearValue := p })

/-- 43_d3d_methods.md R175, R176: `SURFACE_FORMAT` stores the parameter and derives the bytes per pixel from
its low nibble. -/
def Obligations.SurfaceFormatDerivesBytesPerPixel : Prop :=
  SetsD3d .surfaceFormat .kelvinSurfaceFormat (fun x p =>
    { x with
      surfaceFormat := p
      bytesPerPixel := if p.toNat % 16 = 1 then 1 else if p.toNat % 16 = 3 then 2 else 4 })

/-- 43_d3d_methods.md R176: the mapping of all sixteen nibbles. -/
def Obligations.BppOfMapsEveryNibble : Prop :=
  bppOf 0x1 = 1 ∧ bppOf 0x3 = 2 ∧ bppOf 0x5 = 4 ∧
  ∀ n : BitVec 4, n ≠ 0x1 → n ≠ 0x3 → n ≠ 0x5 → bppOf n = 4

/-- 43_d3d_methods.md R179: `CLEAR_SURFACE` stores the trigger value and signals one full redraw, whatever
the value; no byte of memory is written. That the signal is an event without payload at the end of the trace
is the spec's own decision D24 (marked in 10_state.md R47; log entry 22). -/
def Obligations.ClearSurfaceSignalsRedraw : Prop :=
  IsKelvinRow (some .clearSurface) .kelvinClearSurface ∧
  ∀ (via : Entry) (c : ChanId) (code p : Word) (s : State), ∃ t,
    exec (.kelvinClearSurface via c code p) s = .next t ∧
    OnlyD3d s t c { (s.dev.channel c).d3d with clearSurface := p } ∧
    t.dev.irq = s.dev.irq ∧ t.dev.out = s.dev.out ++ [.fullRedraw] ∧ t.ret = .success true

/-- 43_d3d_methods.md R181: `SEMAPHORE_ACQUIRE` writes its parameter at object plus offset, and writes
nothing where the four bytes do not fit the region; it succeeds either way and changes nothing else. That it
returns `true` although the write was dropped is the spec's own decision D26, that the sum does not wrap is
D10 (44_memory_shim.md R190; U18, unsafe), and that the address needs no alignment is D9 (20_memory.md R52):
log entry 13. That the byte order is a parameter is D8 (20_memory.md R51; log entries 4 and 17). -/
def Obligations.SemaphoreAcquireWritesOneWord : Prop :=
  IsKelvinRow (some .semaphoreAcquire) .kelvinSemaphoreAcquire ∧
  ∀ (via : Entry) (c : ChanId) (code p : Word) (s : State), ∃ t,
    exec (.kelvinSemaphoreAcquire via c code p) s = .next t ∧ t.ret = .success true ∧
    ∀ a, a = (s.dev.channel c).d3d.semaphoreObj.toNat + (s.dev.channel c).d3d.semaphoreOffset.toNat →
      (a + 4 ≤ s.cfg.regionSize → HoldsWord s.cfg.byteOrder t.dev.mem a p ∧ OnlyBytes s t a 4) ∧
      (s.cfg.regionSize < a + 4 → OnlyBytes s t a 0)

/-- 20_memory.md R62: configure object and offset, acquire `V`; after any quiet operations, a 4-byte read at
any split of the same address returns `V`, in either byte order. The quiet operations are those that cannot
reach the shim's writes, whatever the configuration: they leave out writes of `CACHE1_PUT` and kicks, also
under the stub, and the writes of memory, also those to other addresses. Reset is among them, and that it
keeps the memory is the spec's own decision D19; that the sums do not wrap is D10 (U18, unsafe): log entry
13. That the address needs no alignment is D9 (R52), and that the read is offered as a transaction is D30
(44_memory_shim.md R191): log entry 13. -/
def Obligations.SemaphoreRoundTrip : Prop :=
  ∀ (s : State) (c : ChanId) (v1 v2 v3 : Entry) (m1 m2 m3 O F V o f : Word) (quiet : List Instr),
    O.toNat + F.toNat + 4 ≤ s.cfg.regionSize → o.toNat + f.toNat = O.toNat + F.toNat →
    (∀ i ∈ quiet, i.mayStore = false) →
    ∃ t, runOps ([.kelvinSemaphoreObject v1 c m1 O, .kelvinSemaphoreOffset v2 c m2 F,
        .kelvinSemaphoreAcquire v3 c m3 V] ++ quiet ++ [.read32 o f]) s = some t ∧ t.ret = .word V

/-! ## The dispatcher -/

/-- 42_command_dispatcher.md R154 to R157: each of the four 2D-surface setters is reached by `CMD` with any
code of its method, stores the parameter verbatim in its field of its channel, returns `true`, and changes
no other field, channel, register or byte and emits nothing. That the parameter is stored verbatim, with no
derived field, is the spec's own decision D15 (marked at the opening of section 2 of that file and in
10_state.md R36; log entry 13). -/
def Obligations.Surf2dSettersStoreVerbatim : Prop :=
  SetsSurf2d .format .surf2dFormat (fun x p => { x with format := p }) ∧
  SetsSurf2d .pitch .surf2dPitch (fun x p => { x with pitch := p }) ∧
  SetsSurf2d .offsetSrc .surf2dOffsetSrc (fun x p => { x with offsetSrc := p }) ∧
  SetsSurf2d .offsetDst .surf2dOffsetDst (fun x p => { x with offsetDst := p })

/-- 42_command_dispatcher.md R159 to R161: the three engines that accept every method and parameter, succeed
and change nothing. -/
def Obligations.AcceptingEnginesChangeNothing : Prop :=
  IsCmdRow (some .gdi) (fun _ _ => True) .gdiAny ∧ IsCmdRow (some .m2mf) (fun _ _ => True) .m2mfAny ∧
  IsCmdRow (some .ifc) (fun _ _ => True) .ifcAny ∧
  ∀ (c : ChanId) (u : SubId) (cls code p : Word) (s : State),
    exec (.gdiAny c u cls code p) s = .next { s with ret := .success true } ∧
    exec (.m2mfAny c u cls code p) s = .next { s with ret := .success true } ∧
    exec (.ifcAny c u cls code p) s = .next { s with ret := .success true }

/-- 42_command_dispatcher.md R151, R158, R162; 43_d3d_methods.md R182: the rows that fail return `false` and
change nothing. That a record with a bad channel is `CMD.BADCHID` whatever its subchannel, and one with a
bad subchannel `CMD.BADSUBC` whatever its class, is the order of the checks; that the channel is checked
first is the spec's own decision D22 (marked in R151; log entry 13). -/
def Obligations.FailingRowsReturnFalse : Prop :=
  (∀ (cfg : Config) (s : State) (chid subc cls code p : Word),
    (32 ≤ chid.toNat → decode cfg (.cmd chid subc cls code p) = .cmdBadchid chid subc cls code p) ∧
    exec (.cmdBadchid chid subc cls code p) s = .next { s with ret := .success false }) ∧
  (∀ (cfg : Config) (s : State) (c : ChanId) (subc cls code p : Word),
    (8 ≤ subc.toNat → decode cfg (.cmd (ChanId.field c) subc cls code p) = .cmdBadsubc c subc cls code p) ∧
    exec (.cmdBadsubc c subc cls code p) s = .next { s with ret := .success false }) ∧
  IsCmdRow none (fun _ _ => True) .classUnknown ∧
  IsCmdRow (some .surf2d) (fun cfg code => cfg.surf2dMethodOf code = none) .surf2dUnknown ∧
  IsKelvinRow none .kelvinUnknown ∧
  ∀ (via : Entry) (c : ChanId) (u : SubId) (cls code p : Word) (s : State),
    exec (.classUnknown c u cls code p) s = .next { s with ret := .success false } ∧
    exec (.surf2dUnknown c u cls code p) s = .next { s with ret := .success false } ∧
    exec (.kelvinUnknown via c code p) s = .next { s with ret := .success false }

/-- 42_command_dispatcher.md R165: a command returns `false` iff its index is bad, its class unknown or its
method unknown, and then it changes nothing; every other command returns `true`. The channel check of
`D3DCMD` is the spec's own decision D14 (marked in R166; log entry 13). That a failed dispatch leaves the
registers, the memory and the outputs too is a sentence that R165 derives. That a `SEMAPHORE_ACQUIRE` whose
write was dropped is among the commands that return `true` is D26, which R165 does not address (marked in
43_d3d_methods.md R181; 91_not_in_source.md N25; log entry 13). -/
def Obligations.DispatchFailsWithoutEffect : Prop :=
  ∀ (s : State) (chid subc cls code p : Word),
    (∃ t b, exec (.cmd chid subc cls code p) s = .next t ∧ t.ret = .success b ∧
      (b = false ↔ CmdRejected s.cfg chid subc cls code) ∧
      (b = false → t = { s with ret := .success false })) ∧
    (∃ t b, exec (.d3dcmd chid code p) s = .next t ∧ t.ret = .success b ∧
      (b = false ↔ 32 ≤ chid.toNat ∨ s.cfg.d3dMethodOf code = none) ∧
      (b = false → t = { s with ret := .success false }))

/-- 42_command_dispatcher.md R152: routing reads the class operand and nothing else of the channel table's
bindings: two states that differ only in their bindings dispatch alike, and the subchannel only has to be in
range. That dispatch does not read the bindings is the spec's own decision D12 (marked in R152; log entry
14, unsafe). -/
def Obligations.RoutingIgnoresBindings : Prop :=
  ∀ (s : State) (chid subc subc' cls code p : Word) (d : Device),
    subc.toNat < 8 → subc'.toNat < 8 →
    d.reg = s.dev.reg → d.mem = s.dev.mem → d.irq = s.dev.irq → d.out = s.dev.out →
    (∀ c, (d.channel c).d3d = (s.dev.channel c).d3d ∧ (d.channel c).surf2d = (s.dev.channel c).surf2d) →
    ∃ t u, exec (.cmd chid subc cls code p) s = .next t ∧
      exec (.cmd chid subc' cls code p) { s with dev := d } = .next u ∧
      u.ret = t.ret ∧ u.dev.reg = t.dev.reg ∧ u.dev.mem = t.dev.mem ∧ u.dev.irq = t.dev.irq ∧
      u.dev.out = t.dev.out ∧
      ∀ c, (u.dev.channel c).d3d = (t.dev.channel c).d3d ∧
        (u.dev.channel c).surf2d = (t.dev.channel c).surf2d

/-- 42_command_dispatcher.md R167, the spec's own decision D12 (log entry 14): no operation but reset writes
a binding. -/
def Obligations.OnlyResetWritesBindings : Prop :=
  ∀ (i : Instr) (s t : State), i.isReset = false → exec i s = .next t →
    ∀ c : ChanId, (t.dev.channel c).bind = (s.dev.channel c).bind

/-- 10_state.md R33: an operation changes no channel but the one it acts on; reset acts on all. -/
def Obligations.ChannelsAreIndependent : Prop :=
  ∀ (i : Instr) (s t : State) (c : ChanId), i.isReset = false → exec i s = .next t →
    i.targetChannel s.dev.reg ≠ some c → t.dev.channel c = s.dev.channel c

/-- 10_state.md R35, which the spec derives: every channel's bytes per pixel stays 1, 2 or 4. -/
def Obligations.StepKeepsBytesPerPixel : Prop :=
  ∀ s t : State, s.bppInv → step s = .next t → t.bppInv

/-! ## The memory shim -/

/-- 44_memory_shim.md R190, R191: a linear read returns the four bytes at object plus offset in the byte
order, or 0 where they do not all lie in the region; it changes nothing. That the sum does not wrap is the
spec's own decision D10 (marked in R190; U18, unsafe), and that the address needs no alignment is D9
(20_memory.md R52): log entry 13. That the read is offered as a transaction is D30 (R191; log entry 13), and
that the byte order is a parameter is D8 (20_memory.md R51; log entries 4 and 17). -/
def Obligations.Read32ReadsOneWord : Prop :=
  ∀ (c : Config) (s : State) (o f : Word), decode c (.linRead o f) = .read32 o f ∧
    ∃ v : Word, exec (.read32 o f) s = .next { s with ret := .word v } ∧
      (o.toNat + f.toNat + 4 ≤ s.cfg.regionSize →
        HoldsWord s.cfg.byteOrder s.dev.mem (o.toNat + f.toNat) v) ∧
      (s.cfg.regionSize < o.toNat + f.toNat + 4 → v = 0)

/-- 44_memory_shim.md R190, R192: a linear write stores the four bytes at object plus offset, or is dropped
whole where they do not all lie in the region; it changes nothing else. That the sum does not wrap is the
spec's own decision D10 (marked in R190; U18, unsafe), and that the address needs no alignment is D9
(20_memory.md R52): log entry 13. That the write is offered as a transaction is D30 (log entry 13), and that
the byte order is a parameter is D8 (20_memory.md R51; log entries 4 and 17). -/
def Obligations.Write32WritesOneWord : Prop :=
  ∀ (c : Config) (s : State) (o f v : Word), decode c (.linWrite o f v) = .write32 o f v ∧
    ∃ t, exec (.write32 o f v) s = .next t ∧ t.ret = .none ∧
      (o.toNat + f.toNat + 4 ≤ s.cfg.regionSize →
        HoldsWord s.cfg.byteOrder t.dev.mem (o.toNat + f.toNat) v ∧
        OnlyBytes s t (o.toNat + f.toNat) 4) ∧
      (s.cfg.regionSize < o.toNat + f.toNat + 4 → OnlyBytes s t 0 0)

/-- 44_memory_shim.md R193: an instance-memory read of 1 byte is zero-extended, of 4 bytes is in the byte
order, at the tail of the region; any other size, or an access that does not end inside the window, reads 0.
It changes nothing. The zero extension, the treatment of the other sizes and the refusal of an access that
straddles the window's end are the spec's own decision D17 (marked in R193 and in 20_memory.md R53, R57),
and that the address needs no alignment is D9 (20_memory.md R52): log entry 13. That the byte order is a
parameter is D8 (20_memory.md R51; log entries 4 and 17). -/
def Obligations.RaminReadReadsTheWindow : Prop :=
  ∀ (c : Config) (s : State) (a n : Nat), decode c (.raminRead a n) = .raminRd a n ∧
    ∃ v : Word, exec (.raminRd a n) s = .next { s with ret := .word v } ∧
      (n = 1 → a + n ≤ s.cfg.raminSize →
        v = (s.dev.mem.read (s.cfg.regionSize - s.cfg.raminSize + a)).setWidth 32) ∧
      (n = 4 → a + n ≤ s.cfg.raminSize →
        HoldsWord s.cfg.byteOrder s.dev.mem (s.cfg.regionSize - s.cfg.raminSize + a) v) ∧
      ((n ≠ 1 ∧ n ≠ 4) ∨ s.cfg.raminSize < a + n → v = 0)

/-- 44_memory_shim.md R194: an instance-memory write of 1 byte stores `data[7:0]`, of 4 bytes stores in the
byte order, at the tail of the region; any other size, or an access that does not end inside the window, is
dropped whole. It changes nothing else. The byte stored, the treatment of the other sizes and the refusal of
an access that straddles the window's end are the spec's own decision D17 (marked in R194 and in
20_memory.md R53, R57), and that the address needs no alignment is D9 (20_memory.md R52): log entry 13. That
the byte order is a parameter is D8 (20_memory.md R51; log entries 4 and 17). -/
def Obligations.RaminWriteWritesTheWindow : Prop :=
  ∀ (c : Config) (s : State) (a n : Nat) (v : Word), decode c (.raminWrite a n v) = .raminWr a n v ∧
    ∃ t, exec (.raminWr a n v) s = .next t ∧ t.ret = .none ∧
      ∀ at_, at_ = s.cfg.regionSize - s.cfg.raminSize + a →
        (n = 1 → a + n ≤ s.cfg.raminSize →
          t.dev.mem.read at_ = v.extractLsb' 0 8 ∧ OnlyBytes s t at_ 1) ∧
        (n = 4 → a + n ≤ s.cfg.raminSize →
          HoldsWord s.cfg.byteOrder t.dev.mem at_ v ∧ OnlyBytes s t at_ 4) ∧
        ((n ≠ 1 ∧ n ≠ 4) ∨ s.cfg.raminSize < a + n → OnlyBytes s t at_ 0)

/-- 20_memory.md R58, which the spec derives: the window is the tail of the region. What is written through
one is read through the other. That the sum of object and offset does not wrap is the spec's own decision
D10 (44_memory_shim.md R190), and that the address needs no alignment is D9 (R52): log entry 13. -/
def Obligations.WindowAliasesTheTail : Prop :=
  ∀ (s t : State) (a : Nat) (o f v : Word), a + 4 ≤ s.cfg.raminSize →
    o.toNat + f.toNat = s.cfg.regionSize - s.cfg.raminSize + a →
    (exec (.raminWr a 4 v) s = .next t → ∃ u, exec (.read32 o f) t = .next u ∧ u.ret = .word v) ∧
    (exec (.write32 o f v) s = .next t → ∃ u, exec (.raminRd a 4) t = .next u ∧ u.ret = .word v)

/-- 20_memory.md R51, a sentence that the spec derives: a 1-byte read at the address of a 4-byte write
returns `v[7:0]` in little-endian order and `v[31:24]` in big-endian order. That the byte read is
zero-extended is the spec's own decision D17 (44_memory_shim.md R193), and that the address needs no
alignment is D9 (R52): log entry 13. That the byte order is a parameter is D8 (marked in R51; log entries 4
and 17). -/
def Obligations.ByteViewOfAWord : Prop :=
  ∀ (s t : State) (a : Nat) (v : Word), a + 4 ≤ s.cfg.raminSize → exec (.raminWr a 4 v) s = .next t →
    ∃ (u : State) (b : Word), exec (.raminRd a 1) t = .next u ∧ u.ret = .word b ∧
      (s.cfg.byteOrder = .little → b.toNat = v.toNat % 256) ∧
      (s.cfg.byteOrder = .big → b.toNat = v.toNat / 16777216)

/-- 95_test_vectors.md S3: a step on a register address at or beyond the register space, or an
instance-memory address at or beyond the window, changes no device state and reads 0. The clauses hold for
every size: that a register access of a size outside 1 to 4 reads 0 and writes nothing is the spec's own
decision D31 (20_memory.md R53; log entry 19), and that an instance-memory access of a size other than 1 and
4 does is D17 (44_memory_shim.md R193; log entry 13). The list that the step takes the record from is the
model's (log entry 2). -/
def Obligations.BoundsSafety : Prop :=
  ∀ (s : State) (rest : List Transaction) (addr : Word) (a size : Nat) (v : Word),
    0x1000000 ≤ addr.toNat → s.cfg.raminSize ≤ a →
    (s.env = .mmioRead addr size :: rest → step s = .next { s with env := rest, ret := .word 0 }) ∧
    (s.env = .mmioWrite addr size v :: rest → step s = .next { s with env := rest, ret := .none }) ∧
    (s.env = .raminRead a size :: rest → step s = .next { s with env := rest, ret := .word 0 }) ∧
    (s.env = .raminWrite a size v :: rest → step s = .next { s with env := rest, ret := .none })

/-- 44_memory_shim.md R195, which the spec derives: only the operations that reach the shim's writes change
a byte of memory, and with the default `KickFetch` a kick is none of them. That reset keeps the memory is
the spec's own decision D19 (marked in 70_reset_and_hazards.md R230; log entries 13 and 20), and that the
default `KickFetch` lists only `SEMAPHORE_OBJECT` is D13 (42_command_dispatcher.md R163; log entry 13). -/
def Obligations.OnlyTheShimWritesMemory : Prop :=
  ∀ (i : Instr) (s t : State), exec i s = .next t →
    (i.mayStore = false ∨ (i.mayKick = true ∧ s.cfg.kickFetch = .stub)) → MemoryKept s t

/-- 44_memory_shim.md R196: every step keeps the memory canonical and lists no address outside the region,
whose size it keeps; the canonical form is the model's (log entry 7). -/
def Obligations.StepKeepsTheMemory : Prop :=
  ∀ s t : State, s.memInv → step s = .next t → t.memInv ∧ t.cfg.regionSize = s.cfg.regionSize

/-- 20_memory.md R64, 44_memory_shim.md R195: with the stub, registers, channels and outputs after an
operation do not depend on the memory it found, nor does the result of one that does not read. That no write
of the memory changes what a later kick or dispatch does, since the block fetches no command from it, is the
spec's own decision D29 (marked in R64; log entry 13), and that the default `KickFetch` is a fixed pair is
D13 (42_command_dispatcher.md R163; log entry 13). -/
def Obligations.MemoryInfluencesNothingElse : Prop :=
  ∀ (i : Instr) (s t : State) (m : Memory), s.cfg.kickFetch = .stub → exec i s = .next t →
    ∃ u, exec i { s with dev := { s.dev with mem := m } } = .next u ∧
      u.dev.reg = t.dev.reg ∧ u.dev.chan = t.dev.chan ∧ u.dev.irq = t.dev.irq ∧
      u.dev.out = t.dev.out ∧ (i.isRead = false → u.ret = t.ret)

/-- 44_memory_shim.md R196, 00_scope.md R5: a configuration whose window is larger than its region is
refused; every other has the sizes asked for. The refusal is the spec's own decision D18 (marked in R196;
log entry 6). -/
def Obligations.OversizedWindowIsRefused : Prop :=
  ∀ (c : Config) (region window : Nat),
    (region < window → c.withSizes region window = none) ∧
    (window ≤ region → ∃ c', c.withSizes region window = some c' ∧ c'.regionSize = region ∧
      c'.raminSize = window ∧ c'.byteOrder = c.byteOrder ∧ c'.classTags = c.classTags ∧
      c'.d3dCodes = c.d3dCodes ∧ c'.surf2dCodes = c.surf2dCodes ∧ c'.kickParam = c.kickParam ∧
      c'.kickFetch = c.kickFetch)

/-- 20_memory.md R63: the display path sees the bytes of the region that a host's window read sees. That it
is a function of the device and no transaction is the model's choice (log entry 16). That the host's 1-byte
read is zero-extended is the spec's own decision D17 (marked in 44_memory_shim.md R193; log entry 13), and
that the display path is an agent that only reads is D30 (log entry 13). -/
def Obligations.DisplaySeesTheWindowBytes : Prop :=
  ∀ (s : State) (a : Nat), a < s.cfg.raminSize → ∃ b : Byte,
    s.dev.displayRead s.cfg (s.cfg.regionSize - s.cfg.raminSize + a) = some b ∧
    exec (.raminRd a 1) s = .next { s with ret := .word (b.setWidth 32) }

/-! ## Reads, errors, reset -/

/-- 20_memory.md R55, which the spec derives: no read of a register, of instance memory or of the region has
a side effect. -/
def Obligations.ReadsHaveNoSideEffect : Prop :=
  ∀ (i : Instr) (s : State), i.isRead = true → ∃ v, exec i s = .next { s with ret := .word v }

/-- 60_exceptions.md R211: an operation that meets an error cause and runs no kick changes nothing in the
device; it returns 0, nothing or `false`, but for a semaphore write out of bounds, which succeeds (the
spec's own decision D26, log entry 13). What counts as a cause is the function of log entry 15. Of the
causes, that every address but the twenty is unknown is D2, the channel check of `D3DCMD` is D14, the sums
that do not wrap are D10, the bad sizes and straddling accesses of instance memory are D17 and the order of
the checks is D22 (all log entry 13), and register accesses of a size outside 1 to 4 are D31 (log entry
19). -/
def Obligations.ErrorsChangeNothing : Prop :=
  ∀ (i : Instr) (s : State), i.mayKick = false → diag s.cfg s.dev i ≠ [] →
    ∃ r, exec i s = .next { s with ret := r } ∧
      (r = .word 0 ∨ r = .none ∨ r = .success false ∨
        (r = .success true ∧ diag s.cfg s.dev i = [.boundsLinear]))

/-- 70_reset_and_hazards.md R230: what reset leaves, from any state. That the memory stays, and that the
line is driven again with one `IrqLevel(false)`, are the spec's own decision D19 (marked in R230; log
entries 13 and 20), and the record of that level in the trace is D24 (log entry 22). That the parameters and
the transactions still to come stay is the model's (log entries 4, 2 and 20). -/
def Obligations.ResetOperation : Prop :=
  ∀ (c : Config) (s : State), decode c .rst = .reset ∧ ∃ t, exec .reset s = .next t ∧
    (∀ r, t.dev.reg.get r = if r = .mcEnable ∨ r = .fifoMode then 1 else 0) ∧
    (∀ ch : ChanId, (∀ k : SubId, (t.dev.channel ch).bind.get k = 0) ∧
      (t.dev.channel ch).d3d =
        { semaphoreObj := 0, semaphoreOffset := 0, clipHorizontal := 0, clipVertical := 0,
          surfaceFormat := 0, bytesPerPixel := 1, surfacePitch := 0, surfaceColorOffset := 0,
          clearValue := 0, clearSurface := 0 } ∧
      (t.dev.channel ch).surf2d = { format := 0, pitch := 0, offsetSrc := 0, offsetDst := 0 }) ∧
    t.dev.irq = false ∧ t.dev.out = s.dev.out ++ [.irqLevel false] ∧ MemoryKept s t ∧ EnvKept s t ∧
    t.ret = .none

/-- 70_reset_and_hazards.md R230: reset is idempotent: a second one changes nothing but the trace, which
gains one more `IrqLevel(false)`. That the second reset drives the line again and keeps the memory is the
spec's own decision D19 (marked in R230; log entries 13 and 20), and that the level is recorded though it
did not change is D24 (log entry 22). -/
def Obligations.ResetIsIdempotent : Prop :=
  ∀ s t : State, exec .reset s = .next t →
    exec .reset t = .next { t with dev := { t.dev with out := t.dev.out ++ [.irqLevel false] } }

/-- 10_state.md R37, R42, R43: the launch state is the reset state with an empty trace: every stored
register, every binding and every field of every channel, and the line. That a model is launched in the
reset state is the spec's own decision D19 (R43; log entry 8, unsafe). That nothing is listed in the memory,
that no transaction is presented and that no result has been returned are the model's choice (log entries 7,
2 and 3), and so is that the launched device has the default parameters of 00_scope.md R5 (log entry 17,
unsafe; the byte order's default is the spec's decision D8). -/
def Obligations.LaunchStateIsTheResetState : Prop :=
  (∀ r, State.reset.dev.reg.get r = if r = .mcEnable ∨ r = .fifoMode then 1 else 0) ∧
  (∀ ch : ChanId, (∀ k : SubId, (State.reset.dev.channel ch).bind.get k = 0) ∧
    (State.reset.dev.channel ch).d3d =
      { semaphoreObj := 0, semaphoreOffset := 0, clipHorizontal := 0, clipVertical := 0,
        surfaceFormat := 0, bytesPerPixel := 1, surfacePitch := 0, surfaceColorOffset := 0,
        clearValue := 0, clearSurface := 0 } ∧
    (State.reset.dev.channel ch).surf2d = { format := 0, pitch := 0, offsetSrc := 0, offsetDst := 0 }) ∧
  State.reset.dev.irq = false ∧ State.reset.dev.out = [] ∧ State.reset.dev.mem = [] ∧
  State.reset.env = [] ∧ State.reset.ret = .none ∧ State.reset.cfg.raminSize = 0x10000 ∧
  State.reset.cfg.byteOrder = .little ∧ State.reset.cfg.kickFetch = .stub

/-- The invariants that steps keep hold at the launch state (41_interrupt_aggregator.md R147,
44_memory_shim.md R196, 10_state.md R35). That a model is launched in the reset state is the spec's own
decision D19 (10_state.md R43; log entry 8). R196 says only that the region keeps its size: the canonical
form of the memory, which is a part of its invariant, is the model's choice (log entry 7). -/
def Obligations.LaunchStateMeetsTheInvariants : Prop :=
  State.reset.lineInv ∧ State.reset.memInv ∧ State.reset.bppInv
end

