-- ==== Sys2Proof/Laws/Decode.lean ====
section
/-! SUPPORT. The laws of the decoder's parts: addresses and registers, ids and their fields. -/

namespace Sys2Proof

/-- A register's own address selects it (30_encoding.md R72). -/
@[simp] theorem regAt_addr (r : MmioReg) : regAt r.addr = some r := by
  cases r with
  | mcIntr => decide
  | stored r => cases r <;> decide

/-- An entry that a table lookup finds is in the table. -/
theorem mem_of_lookup {α β : Type} [DecidableEq α] {l : List (α × β)} {a : α} {b : β}
    (h : l.lookup a = some b) : (a, b) ∈ l := by
  induction l with
  | nil => simp at h
  | cons p l ih =>
    obtain ⟨x, y⟩ := p
    rw [List.lookup_cons] at h
    split at h
    · simp_all
    · exact List.mem_cons_of_mem _ (ih h)

/-- Only a register's own address selects it (30_encoding.md R72). -/
theorem addr_of_regAt {a : Word} {r : MmioReg} (h : regAt a = some r) : a = r.addr := by
  have hall : ∀ p ∈ addressMap, p.1 = p.2.addr := by decide
  exact hall _ (mem_of_lookup h)

/-- Every register address is in range (30_encoding.md R72). -/
theorem addr_lt (r : MmioReg) : r.addr.toNat < mmioSize := by
  cases r with
  | mcIntr => decide
  | stored r => cases r <;> decide

@[simp] theorem ChanId.field_toNat (c : ChanId) : (ChanId.field c).toNat = c.val := by
  have := c.isLt
  simp only [ChanId.field, BitVec.toNat_ofNat]; omega

@[simp] theorem SubId.field_toNat (s : SubId) : (SubId.field s).toNat = s.val := by
  have := s.isLt
  simp only [SubId.field, BitVec.toNat_ofNat]; omega

@[simp] theorem chanOf_field (c : ChanId) : chanOf (ChanId.field c) = some c := by simp [chanOf]

@[simp] theorem subOf_field (s : SubId) : subOf (SubId.field s) = some s := by simp [subOf]

theorem field_of_chanOf {w : Word} {c : ChanId} (h : chanOf w = some c) : ChanId.field c = w := by
  simp only [chanOf, Option.dite_none_right_eq_some, Option.some.injEq] at h
  obtain ⟨hw, rfl⟩ := h
  exact BitVec.eq_of_toNat_eq (by simp)

theorem field_of_subOf {w : Word} {s : SubId} (h : subOf w = some s) : SubId.field s = w := by
  simp only [subOf, Option.dite_none_right_eq_some, Option.some.injEq] at h
  obtain ⟨hw, rfl⟩ := h
  exact BitVec.eq_of_toNat_eq (by simp)

/-- A channel id passes its check iff it is below 32 (42_command_dispatcher.md R151). -/
theorem chanOf_eq_none {w : Word} : chanOf w = none ↔ 32 ≤ w.toNat := by
  simp [chanOf]

/-- A subchannel id passes its check iff it is below 8 (42_command_dispatcher.md R151). -/
theorem subOf_eq_none {w : Word} : subOf w = none ↔ 8 ≤ w.toNat := by
  simp [subOf]

end Sys2Proof
end

