-- ==== Sys2Proof/Laws/State.lean ====
section
/-! SUPPORT. The small lemmas of the state's record updates: one per field per update, true by rfl, so that
no later proof unfolds an update. -/

namespace Sys2Proof.Machine

/-! ## writeReg -/
@[simp] theorem Device.writeReg_reg (d : Device) (r : Reg) (v : Word) : (d.writeReg r v).reg = d.reg.set v r := rfl
@[simp] theorem Device.writeReg_chan (d : Device) (r : Reg) (v : Word) : (d.writeReg r v).chan = d.chan := rfl
@[simp] theorem Device.writeReg_mem (d : Device) (r : Reg) (v : Word) : (d.writeReg r v).mem = d.mem := rfl
@[simp] theorem Device.writeReg_irq (d : Device) (r : Reg) (v : Word) : (d.writeReg r v).irq = d.irq := rfl
@[simp] theorem Device.writeReg_out (d : Device) (r : Reg) (v : Word) : (d.writeReg r v).out = d.out := rfl

/-! ## emit and updateIrq -/

@[simp] theorem Device.emit_reg (d : Device) (e : OutEvent) : (d.emit e).reg = d.reg := rfl
@[simp] theorem Device.emit_chan (d : Device) (e : OutEvent) : (d.emit e).chan = d.chan := rfl
@[simp] theorem Device.emit_mem (d : Device) (e : OutEvent) : (d.emit e).mem = d.mem := rfl
@[simp] theorem Device.emit_irq (d : Device) (e : OutEvent) : (d.emit e).irq = d.irq := rfl
@[simp] theorem Device.emit_out (d : Device) (e : OutEvent) : (d.emit e).out = d.out ++ [e] := rfl

@[simp] theorem Device.updateIrq_reg (d : Device)  : (d.updateIrq).reg = d.reg := rfl
@[simp] theorem Device.updateIrq_chan (d : Device)  : (d.updateIrq).chan = d.chan := rfl
@[simp] theorem Device.updateIrq_mem (d : Device)  : (d.updateIrq).mem = d.mem := rfl
@[simp] theorem Device.updateIrq_irq (d : Device)  : (d.updateIrq).irq = line d.reg := rfl
@[simp] theorem Device.updateIrq_out (d : Device)  : (d.updateIrq).out = d.out ++ [.irqLevel (line d.reg)] := rfl

/-! ## latches -/

@[simp] theorem Device.clearLatch_reg (d : Device) (r : Reg) (v : Word) : (d.clearLatch r v).reg = d.reg.set (d.reg.get r &&& ~~~v) r := rfl
@[simp] theorem Device.clearLatch_chan (d : Device) (r : Reg) (v : Word) : (d.clearLatch r v).chan = d.chan := rfl
@[simp] theorem Device.clearLatch_mem (d : Device) (r : Reg) (v : Word) : (d.clearLatch r v).mem = d.mem := rfl
@[simp] theorem Device.clearLatch_irq (d : Device) (r : Reg) (v : Word) : (d.clearLatch r v).irq = d.irq := rfl
@[simp] theorem Device.clearLatch_out (d : Device) (r : Reg) (v : Word) : (d.clearLatch r v).out = d.out := rfl

@[simp] theorem Device.setLatch_reg (d : Device) (r : Reg) (v : Word) : (d.setLatch r v).reg = d.reg.set (d.reg.get r ||| v) r := rfl
@[simp] theorem Device.setLatch_chan (d : Device) (r : Reg) (v : Word) : (d.setLatch r v).chan = d.chan := rfl
@[simp] theorem Device.setLatch_mem (d : Device) (r : Reg) (v : Word) : (d.setLatch r v).mem = d.mem := rfl
@[simp] theorem Device.setLatch_irq (d : Device) (r : Reg) (v : Word) : (d.setLatch r v).irq = d.irq := rfl
@[simp] theorem Device.setLatch_out (d : Device) (r : Reg) (v : Word) : (d.setLatch r v).out = d.out := rfl

/-! ## channels -/

@[simp] theorem Device.setChannel_reg (d : Device) (c : ChanId) (x : Channel) : (d.setChannel c x).reg = d.reg := rfl
@[simp] theorem Device.setChannel_mem (d : Device) (c : ChanId) (x : Channel) : (d.setChannel c x).mem = d.mem := rfl
@[simp] theorem Device.setChannel_irq (d : Device) (c : ChanId) (x : Channel) : (d.setChannel c x).irq = d.irq := rfl
@[simp] theorem Device.setChannel_out (d : Device) (c : ChanId) (x : Channel) : (d.setChannel c x).out = d.out := rfl

@[simp] theorem Device.setD3d_reg (d : Device) (c : ChanId) (x : D3DState) : (d.setD3d c x).reg = d.reg := rfl
@[simp] theorem Device.setD3d_mem (d : Device) (c : ChanId) (x : D3DState) : (d.setD3d c x).mem = d.mem := rfl
@[simp] theorem Device.setD3d_irq (d : Device) (c : ChanId) (x : D3DState) : (d.setD3d c x).irq = d.irq := rfl
@[simp] theorem Device.setD3d_out (d : Device) (c : ChanId) (x : D3DState) : (d.setD3d c x).out = d.out := rfl

@[simp] theorem Device.setSurf2d_reg (d : Device) (c : ChanId) (x : Surf2DState) : (d.setSurf2d c x).reg = d.reg := rfl
@[simp] theorem Device.setSurf2d_mem (d : Device) (c : ChanId) (x : Surf2DState) : (d.setSurf2d c x).mem = d.mem := rfl
@[simp] theorem Device.setSurf2d_irq (d : Device) (c : ChanId) (x : Surf2DState) : (d.setSurf2d c x).irq = d.irq := rfl
@[simp] theorem Device.setSurf2d_out (d : Device) (c : ChanId) (x : Surf2DState) : (d.setSurf2d c x).out = d.out := rfl

/-! ## reset -/

@[simp] theorem Device.resetAll_reg (d : Device) : d.resetAll.reg = RegFile.initial := rfl
@[simp] theorem Device.resetAll_chan (d : Device) : d.resetAll.chan = Vector.replicate 32 Channel.initial := rfl
@[simp] theorem Device.resetAll_mem (d : Device) : d.resetAll.mem = d.mem := rfl
@[simp] theorem Device.resetAll_irq (d : Device) : d.resetAll.irq = line RegFile.initial := by
  simp [Device.resetAll]
@[simp] theorem Device.resetAll_out (d : Device) : d.resetAll.out = d.out ++ [.irqLevel (line RegFile.initial)] := by
  simp [Device.resetAll]

/-! ## How a transaction ends -/

/-- A finished transaction answers the next state that holds the device and the result. -/
theorem State.finish_eq (s : State) (d : Device) (r : Ret) :
    s.finish d r = .next { s with dev := d, ret := r } := rfl

@[simp] theorem State.answer_eq (s : State) (v : Word) :
    s.answer v = .next { s with ret := .word v } := rfl

@[simp] theorem State.wrote_eq (s : State) (d : Device) :
    s.wrote d = .next { s with dev := d, ret := .none } := rfl

@[simp] theorem State.dispatched_eq (s : State) (r : Device × Bool) :
    s.dispatched r = .next { s with dev := r.1, ret := .success r.2 } := rfl

/-! ## The launch state -/

@[simp] theorem State.reset_reg : State.reset.dev.reg = RegFile.initial := rfl

@[simp] theorem State.reset_chan : State.reset.dev.chan = Vector.replicate 32 Channel.initial := rfl

@[simp] theorem State.reset_mem : State.reset.dev.mem = [] := rfl

@[simp] theorem State.reset_irq : State.reset.dev.irq = false := rfl

@[simp] theorem State.reset_out : State.reset.dev.out = [] := rfl

@[simp] theorem State.reset_env : State.reset.env = [] := rfl

@[simp] theorem State.reset_ret : State.reset.ret = .none := rfl

end Sys2Proof.Machine
end

