-- ==== Sys2Proof/Laws/Memory.lean ====
section
/-! SUPPORT. The laws of the memory region: read after write, what a write leaves alone, and that every
memory operation keeps the canonical form. -/

namespace Sys2Proof.Machine

/-! ## One byte -/

@[simp] theorem Memory.get?_put_same (m : Memory) (a : Nat) (v : Byte) : (m.put a v).get? a = some v := by
  induction m with
  | nil => simp [Memory.put, Memory.get?]
  | cons cell m ih =>
    obtain ⟨b, w⟩ := cell
    simp only [Memory.put]
    split
    · simp [Memory.get?]
    · split
      · simp [Memory.get?]
      · simp [Memory.get?, ‹a ≠ b›, ih]

theorem Memory.get?_put_ne (m : Memory) {a b : Nat} (v : Byte) (h : b ≠ a) :
    (m.put a v).get? b = m.get? b := by
  induction m with
  | nil => simp [Memory.put, Memory.get?, h]
  | cons cell m ih =>
    obtain ⟨e, w⟩ := cell
    simp only [Memory.put]
    split
    · simp [Memory.get?, h]
    · split
      · subst e; simp [Memory.get?, h]
      · simp only [Memory.get?]; split <;> simp_all

/-- A byte reads as what was last written to it, and as before elsewhere (20_memory.md R60). -/
theorem Memory.read_put (m : Memory) (a b : Nat) (v : Byte) :
    (m.put a v).read b = if b = a then v else m.read b := by
  split
  · subst b; simp [Memory.read]
  · simp [Memory.read, m.get?_put_ne v ‹_›]

/-! ## The canonical form -/

/-- The canonical form below a head: the head's address is less than every other. -/
theorem Memory.wf_cons (a : Nat) (v : Byte) (m : Memory) :
    Memory.wf ((a, v) :: m) = true ↔ (∀ cell ∈ m.head?, a < cell.1) ∧ m.wf = true := by
  cases m with
  | nil => simp [Memory.wf]
  | cons cell m => obtain ⟨b, w⟩ := cell; simp [Memory.wf]

theorem Memory.head?_put (m : Memory) (a : Nat) (v : Byte) {b : Nat}
    (hb : b < a) (hm : ∀ cell ∈ m.head?, b < cell.1) : ∀ cell ∈ (m.put a v).head?, b < cell.1 := by
  cases m with
  | nil => simpa [Memory.put] using hb
  | cons cell m =>
    obtain ⟨e, w⟩ := cell
    simp only [Memory.put]
    split
    · simpa using hb
    · split
      · simpa using hb
      · simpa using hm

/-- A write of one byte keeps the canonical form. -/
theorem Memory.put_wf (m : Memory) (a : Nat) (v : Byte) (h : m.wf = true) : (m.put a v).wf = true := by
  induction m with
  | nil => simp [Memory.put, Memory.wf]
  | cons cell m ih =>
    obtain ⟨b, w⟩ := cell
    have hm := (Memory.wf_cons b w m).mp h
    simp only [Memory.put]
    split
    · exact (Memory.wf_cons ..).mpr ⟨by simpa using ‹a < b›, h⟩
    · split
      · subst b; exact (Memory.wf_cons ..).mpr hm
      · exact (Memory.wf_cons ..).mpr ⟨Memory.head?_put m a v (by omega) hm.1, ih hm.2⟩

/-- A write of one byte inside the region lists no address outside it. -/
theorem Memory.put_within {size : Nat} (m : Memory) (a : Nat) (v : Byte) (ha : a < size)
    (h : m.within size = true) : (m.put a v).within size = true := by
  induction m with
  | nil => simpa [Memory.put, Memory.within] using ha
  | cons cell m ih =>
    obtain ⟨b, w⟩ := cell
    simp only [Memory.within, List.all_cons, Bool.and_eq_true, decide_eq_true_eq] at h ih ⊢
    simp only [Memory.put]
    split
    · simp [ha, h]
    · split
      · simp [ha, h]
      · simp [h.1, ih h.2]

/-! ## Wide accesses -/

/-- A fold of byte writes keeps the canonical form. -/
theorem Memory.writeBytes_wf (o : ByteOrder) (m : Memory) (addr n : Nat) (v : Word)
    (h : m.wf = true) : (m.writeBytes o addr n v).wf = true := by
  simp only [Memory.writeBytes]
  generalize List.range n = is
  induction is generalizing m with
  | nil => simpa using h
  | cons i is ih => exact ih _ (m.put_wf _ _ h)

/-- A wide write that ends inside the region lists no address outside it. -/
theorem Memory.writeBytes_within {size : Nat} (o : ByteOrder) (m : Memory) (addr n : Nat) (v : Word)
    (hn : addr + n ≤ size) (h : m.within size = true) :
    (m.writeBytes o addr n v).within size = true := by
  simp only [Memory.writeBytes]
  have hi : ∀ i ∈ List.range n, addr + i < size := fun i hi => by
    have := List.mem_range.mp hi; omega
  generalize List.range n = is at hi
  induction is generalizing m with
  | nil => simpa using h
  | cons i is ih =>
    exact ih _ (m.put_within _ _ (hi i (by simp)) h) (fun j hj => hi j (by simp [hj]))

/-- What every byte reads as after a wide write (20_memory.md R51). -/
theorem Memory.read_writeBytes (o : ByteOrder) (m : Memory) (addr n : Nat) (v : Word) (a : Nat) :
    (m.writeBytes o addr n v).read a =
      if addr ≤ a ∧ a < addr + n then byteOf v (bytePos o n (a - addr)) else m.read a := by
  simp only [Memory.writeBytes]
  suffices h : ∀ k, ∀ m : Memory, ((List.range k).foldl
      (fun m i => m.put (addr + i) (byteOf v (bytePos o n i))) m).read a =
      if addr ≤ a ∧ a < addr + k then byteOf v (bytePos o n (a - addr)) else m.read a from h n m
  intro k
  induction k with
  | zero => intro m; simp
  | succ k ih =>
    intro m
    rw [List.range_succ, List.foldl_append]
    simp only [List.foldl_cons, List.foldl_nil, Memory.read_put, ih]
    by_cases h : a = addr + k
    · subst h; simp
    · simp only [h, if_false]
      by_cases h2 : addr ≤ a ∧ a < addr + k
      · rw [if_pos h2, if_pos ⟨h2.1, by omega⟩]
      · rw [if_neg h2, if_neg (by omega)]

/-- A 32-bit value is the sum of its four bytes at their places. -/
theorem byteOf_sum (v : Word) :
    (byteOf v 0).toNat + (byteOf v 1).toNat * 256 + (byteOf v 2).toNat * 65536 +
      (byteOf v 3).toNat * 16777216 = v.toNat := by
  simp only [byteOf, BitVec.extractLsb'_toNat, Nat.shiftRight_eq_div_pow]
  have := v.isLt
  omega

/-- A wide read depends on the bytes it covers alone (20_memory.md R51). -/
theorem Memory.readBytes_congr (o : ByteOrder) {m m' : Memory} (addr n : Nat)
    (h : ∀ i, i < n → m.read (addr + i) = m'.read (addr + i)) :
    m.readBytes o addr n = m'.readBytes o addr n := by
  have hl : ((List.range n).map fun i => (m.read (addr + i)).toNat * 256 ^ bytePos o n i) =
      (List.range n).map fun i => (m'.read (addr + i)).toNat * 256 ^ bytePos o n i :=
    List.map_congr_left fun i hi => by rw [h i (List.mem_range.mp hi)]
  simp only [Memory.readBytes, hl]

/-- A 4-byte read is the sum of its four bytes at their places (20_memory.md R51). -/
theorem Memory.readBytes_four (o : ByteOrder) (m : Memory) (addr : Nat) :
    m.readBytes o addr 4 = BitVec.ofNat 32
      ((m.read addr).toNat * 256 ^ bytePos o 4 0 + (m.read (addr + 1)).toNat * 256 ^ bytePos o 4 1 +
        (m.read (addr + 2)).toNat * 256 ^ bytePos o 4 2 + (m.read (addr + 3)).toNat * 256 ^ bytePos o 4 3) := by
  simp [Memory.readBytes, List.range_succ, Nat.add_assoc]

/-- A 1-byte read is the byte, in either order (20_memory.md R51). -/
theorem Memory.readBytes_one (o : ByteOrder) (m : Memory) (addr : Nat) :
    m.readBytes o addr 1 = (m.read addr).setWidth 32 := by
  apply BitVec.eq_of_toNat_eq
  cases o <;> simp [Memory.readBytes, List.range_succ, bytePos]

/-- A 4-byte read after the 4-byte write of the same place returns the value written (20_memory.md R60). -/
theorem Memory.readBytes_writeBytes (o : ByteOrder) (m : Memory) (addr : Nat) (v : Word) :
    (m.writeBytes o addr 4 v).readBytes o addr 4 = v := by
  rw [Memory.readBytes_four]
  have hs := byteOf_sum v
  have hv : BitVec.ofNat 32 v.toNat = v := by simp
  conv => rhs; rw [← hv, ← hs]
  congr 1
  cases o <;> simp only [Memory.read_writeBytes, bytePos] <;>
    simp +arith
end Sys2Proof.Machine
end

