-- ==== Sys2Proof/Laws/Registers.lean ====
section
/-! SUPPORT. The laws of the register file, of latches and of the channel table: read after write, and what
a write leaves alone. -/

namespace Sys2Proof.Machine

/-! ## The register file -/

@[simp] theorem RegFile.get_set_same (f : RegFile) (r : Reg) (v : Word) : (f.set v r).get r = v := by
  cases r <;> rfl

theorem RegFile.get_set_ne (f : RegFile) {r q : Reg} (v : Word) (h : q ≠ r) :
    (f.set v r).get q = f.get q := by
  cases r <;> cases q <;> first | rfl | exact absurd rfl h

/-- A register reads as what was last written to it, and as before elsewhere (20_memory.md R60). -/
theorem RegFile.get_set (f : RegFile) (r q : Reg) (v : Word) :
    (f.set v r).get q = if q = r then v else f.get q := by
  split
  · subst q; simp
  · exact f.get_set_ne v ‹_›

/-- Two register files that read alike at every register are equal. -/
theorem RegFile.ext_get {f g : RegFile} (h : ∀ r, f.get r = g.get r) : f = g := by
  cases f; cases g
  simp only [RegFile.mk.injEq]
  exact ⟨h .mcIntrEn, h .mcEnable, h .busIntr, h .busIntrEn, h .fifoIntr, h .fifoIntrEn, h .fifoRamht,
    h .fifoRamfc, h .fifoRamro, h .fifoMode, h .cache1Push1, h .cache1Put, h .cache1DmaPush,
    h .cache1DmaInstance, h .cache1DmaPut, h .cache1DmaGet, h .cache1RefCnt, h .cache1Pull,
    h .cache1Semaphore⟩

/-- What a latch acknowledge leaves in each register (40_register_frontend.md R101). -/
theorem Device.ackLatch_get (d : Device) (r q : Reg) (b : Bool) :
    (d.ackLatch r b).reg.get q = if b = true ∧ q = r then 0 else d.reg.get q := by
  cases b <;> simp [Device.ackLatch, RegFile.get_set]

@[simp] theorem Device.ackLatch_chan (d : Device) (r : Reg) (b : Bool) :
    (d.ackLatch r b).chan = d.chan := by cases b <;> rfl

@[simp] theorem Device.ackLatch_mem (d : Device) (r : Reg) (b : Bool) :
    (d.ackLatch r b).mem = d.mem := by cases b <;> rfl

@[simp] theorem Device.ackLatch_irq (d : Device) (r : Reg) (b : Bool) :
    (d.ackLatch r b).irq = d.irq := by cases b <;> rfl

@[simp] theorem Device.ackLatch_out (d : Device) (r : Reg) (b : Bool) :
    (d.ackLatch r b).out = d.out := by cases b <;> rfl

/-! ## The channel table -/

/-- A channel depends on the channel table alone. -/
theorem Device.channel_congr {d e : Device} (h : d.chan = e.chan) (c : ChanId) :
    d.channel c = e.channel c := by simp [Device.channel, h]

@[simp] theorem Device.channel_setChannel_same (d : Device) (c : ChanId) (x : Channel) :
    (d.setChannel c x).channel c = x := by
  simp [Device.channel, Device.setChannel, Vector.get_eq_getElem]

theorem Device.channel_setChannel_ne (d : Device) {c e : ChanId} (x : Channel) (h : e ≠ c) :
    (d.setChannel c x).channel e = d.channel e := by
  have hv : (c : Nat) ≠ e := fun he => h (Fin.ext he.symm)
  simp [Device.channel, Device.setChannel, Vector.get_eq_getElem, Vector.getElem_set_ne, hv]

@[simp] theorem Device.channel_setD3d_same (d : Device) (c : ChanId) (x : D3DState) :
    (d.setD3d c x).channel c = { d.channel c with d3d := x } := by simp [Device.setD3d]

@[simp] theorem Device.channel_setSurf2d_same (d : Device) (c : ChanId) (x : Surf2DState) :
    (d.setSurf2d c x).channel c = { d.channel c with surf2d := x } := by simp [Device.setSurf2d]

theorem Device.channel_setD3d_ne (d : Device) {c e : ChanId} (x : D3DState) (h : e ≠ c) :
    (d.setD3d c x).channel e = d.channel e := d.channel_setChannel_ne _ h

theorem Device.channel_setSurf2d_ne (d : Device) {c e : ChanId} (x : Surf2DState) (h : e ≠ c) :
    (d.setSurf2d c x).channel e = d.channel e := d.channel_setChannel_ne _ h

@[simp] theorem Device.channel_emit (d : Device) (e : OutEvent) (c : ChanId) :
    (d.emit e).channel c = d.channel c := rfl

@[simp] theorem Device.channel_updateIrq (d : Device) (c : ChanId) :
    d.updateIrq.channel c = d.channel c := rfl

@[simp] theorem Device.channel_writeReg (d : Device) (r : Reg) (v : Word) (c : ChanId) :
    (d.writeReg r v).channel c = d.channel c := rfl

@[simp] theorem Device.channel_ackLatch (d : Device) (r : Reg) (b : Bool) (c : ChanId) :
    (d.ackLatch r b).channel c = d.channel c := Device.channel_congr (by simp) c

/-- Every channel of a table filled with one channel is that channel (10_state.md R37). -/
theorem Device.channel_replicate {d : Device} {x : Channel} (h : d.chan = Vector.replicate 32 x)
    (c : ChanId) : d.channel c = x := by
  simp [Device.channel, h, Vector.get_eq_getElem]

end Sys2Proof.Machine
end

