-- ==== Sys2Proof/Laws/Ops.lean ====
section
/-! SUPPORT. One law for each shared operation that says once everything it can do; the provers cite these
instead of unfolding the operations. -/

namespace Sys2Proof.Machine

/-! ## The shim -/

@[simp] theorem Device.write32_reg (d : Device) (c : Config) (o f v : Word) :
    (d.write32 c o f v).reg = d.reg := by unfold Device.write32; split <;> rfl

@[simp] theorem Device.write32_chan (d : Device) (c : Config) (o f v : Word) :
    (d.write32 c o f v).chan = d.chan := by unfold Device.write32; split <;> rfl

@[simp] theorem Device.write32_irq (d : Device) (c : Config) (o f v : Word) :
    (d.write32 c o f v).irq = d.irq := by unfold Device.write32; split <;> rfl

@[simp] theorem Device.write32_out (d : Device) (c : Config) (o f v : Word) :
    (d.write32 c o f v).out = d.out := by unfold Device.write32; split <;> rfl

@[simp] theorem Device.channel_write32 (d : Device) (c : Config) (o f v : Word) (e : ChanId) :
    (d.write32 c o f v).channel e = d.channel e := Device.channel_congr (by simp) e

/-- A linear write is dropped whole, or stores its four bytes (44_memory_shim.md R192). -/
theorem Device.write32_mem (d : Device) (c : Config) (o f v : Word) :
    (d.write32 c o f v).mem =
      if linAddress o f + 4 ≤ c.regionSize then d.mem.writeBytes c.byteOrder (linAddress o f) 4 v
      else d.mem := by
  simp only [Device.write32, linAllowed, decide_eq_true_eq]; split <;> rfl

@[simp] theorem Device.raminWrite_reg (d : Device) (c : Config) (a n : Nat) (v : Word) :
    (d.raminWrite c a n v).reg = d.reg := by unfold Device.raminWrite; split <;> (try split) <;> rfl

@[simp] theorem Device.raminWrite_chan (d : Device) (c : Config) (a n : Nat) (v : Word) :
    (d.raminWrite c a n v).chan = d.chan := by unfold Device.raminWrite; split <;> (try split) <;> rfl

@[simp] theorem Device.raminWrite_irq (d : Device) (c : Config) (a n : Nat) (v : Word) :
    (d.raminWrite c a n v).irq = d.irq := by unfold Device.raminWrite; split <;> (try split) <;> rfl

@[simp] theorem Device.raminWrite_out (d : Device) (c : Config) (a n : Nat) (v : Word) :
    (d.raminWrite c a n v).out = d.out := by unfold Device.raminWrite; split <;> (try split) <;> rfl

@[simp] theorem Device.channel_raminWrite (d : Device) (c : Config) (a n : Nat) (v : Word) (e : ChanId) :
    (d.raminWrite c a n v).channel e = d.channel e := Device.channel_congr (by simp) e

/-- A window write is dropped whole, or stores its bytes at the tail of the region
(44_memory_shim.md R194). -/
theorem Device.raminWrite_mem (d : Device) (c : Config) (a n : Nat) (v : Word) :
    (d.raminWrite c a n v).mem =
      if (n = 1 ∨ n = 4) ∧ a + n ≤ c.raminSize then
        d.mem.writeBytes c.byteOrder (c.regionSize - c.raminSize + a) n v
      else d.mem := by
  by_cases h1 : n = 1 ∨ n = 4 <;> by_cases h2 : a + n ≤ c.raminSize <;>
    simp [Device.raminWrite, raminSizeOk, raminAddr, h1, h2]

/-- The window ends where the region ends (20_memory.md R57). -/
theorem window_end (c : Config) {a n : Nat} (h : a + n ≤ c.raminSize) :
    c.regionSize - c.raminSize + a + n ≤ c.regionSize := by
  simp only [Config.regionSize]; omega

/-- A linear write keeps the canonical form and the bound of the region. -/
theorem Device.write32_keeps (d : Device) (c : Config) (o f v : Word) (h : d.mem.wf = true)
    (hw : d.mem.within c.regionSize = true) :
    (d.write32 c o f v).mem.wf = true ∧ (d.write32 c o f v).mem.within c.regionSize = true := by
  rw [Device.write32_mem]
  split
  · exact ⟨Memory.writeBytes_wf _ _ _ _ _ h, Memory.writeBytes_within _ _ _ _ _ ‹_› hw⟩
  · exact ⟨h, hw⟩

/-- A window write keeps the canonical form and the bound of the region. -/
theorem Device.raminWrite_keeps (d : Device) (c : Config) (a n : Nat) (v : Word) (h : d.mem.wf = true)
    (hw : d.mem.within c.regionSize = true) :
    (d.raminWrite c a n v).mem.wf = true ∧
      (d.raminWrite c a n v).mem.within c.regionSize = true := by
  rw [Device.raminWrite_mem]
  split
  · next hn =>
    exact ⟨Memory.writeBytes_wf _ _ _ _ _ h,
      Memory.writeBytes_within _ _ _ _ _ (window_end c hn.2) hw⟩
  · exact ⟨h, hw⟩

/-! ## The 3D methods -/

/-- What a 3D method does: it writes the D3DState of its channel (and may signal the display), or it is the
semaphore write (43_d3d_methods.md R170). -/
theorem runD3d_cases (cfg : Config) (m : D3DMethod) (c : ChanId) (p : Word) (d : Device) :
    (m ≠ .semaphoreAcquire ∧ m ≠ .clearSurface ∧ ∃ x, runD3d cfg m c p d = d.setD3d c x) ∨
    (m = .clearSurface ∧ ∃ x, runD3d cfg m c p d = (d.setD3d c x).emit .fullRedraw) ∨
    (m = .semaphoreAcquire ∧ ∃ o f, runD3d cfg m c p d = d.write32 cfg o f p) := by
  cases m
  case semaphoreAcquire => exact .inr (.inr ⟨rfl, _, _, rfl⟩)
  case clearSurface => exact .inr (.inl ⟨rfl, _, rfl⟩)
  all_goals exact .inl ⟨nofun, nofun, _, rfl⟩

@[simp] theorem runD3d_reg (cfg : Config) (m : D3DMethod) (c : ChanId) (p : Word) (d : Device) :
    (runD3d cfg m c p d).reg = d.reg := by
  obtain ⟨-, -, x, h⟩ | ⟨-, x, h⟩ | ⟨-, o, f, h⟩ := runD3d_cases cfg m c p d <;> simp [h]

@[simp] theorem runD3d_irq (cfg : Config) (m : D3DMethod) (c : ChanId) (p : Word) (d : Device) :
    (runD3d cfg m c p d).irq = d.irq := by
  obtain ⟨-, -, x, h⟩ | ⟨-, x, h⟩ | ⟨-, o, f, h⟩ := runD3d_cases cfg m c p d <;> simp [h]

/-- A 3D method touches no channel but its own (10_state.md R33). -/
theorem runD3d_channel_ne (cfg : Config) (m : D3DMethod) {c e : ChanId} (p : Word) (d : Device)
    (he : e ≠ c) : (runD3d cfg m c p d).channel e = d.channel e := by
  obtain ⟨-, -, x, h⟩ | ⟨-, x, h⟩ | ⟨-, o, f, h⟩ := runD3d_cases cfg m c p d <;> rw [h]
  · exact d.channel_setD3d_ne x he
  · exact d.channel_setD3d_ne x he
  · simp

/-- A 3D method leaves the bindings and the 2D-surface state of every channel (42_command_dispatcher.md R167). -/
theorem runD3d_bind (cfg : Config) (m : D3DMethod) (c : ChanId) (p : Word) (d : Device) (e : ChanId) :
    ((runD3d cfg m c p d).channel e).bind = (d.channel e).bind ∧
      ((runD3d cfg m c p d).channel e).surf2d = (d.channel e).surf2d := by
  by_cases he : e = c
  · subst e
    obtain ⟨-, -, x, h⟩ | ⟨-, x, h⟩ | ⟨-, o, f, h⟩ := runD3d_cases cfg m c p d <;> simp [h]
  · rw [runD3d_channel_ne cfg m p d he]; exact ⟨rfl, rfl⟩

/-- A 3D method keeps the canonical form of the memory and the bound of the region. -/
theorem runD3d_keeps (cfg : Config) (m : D3DMethod) (c : ChanId) (p : Word) (d : Device)
    (h : d.mem.wf = true) (hw : d.mem.within cfg.regionSize = true) :
    (runD3d cfg m c p d).mem.wf = true ∧
      (runD3d cfg m c p d).mem.within cfg.regionSize = true := by
  obtain ⟨-, -, x, e⟩ | ⟨-, x, e⟩ | ⟨-, o, f, e⟩ := runD3d_cases cfg m c p d <;> rw [e]
  · exact ⟨h, hw⟩
  · exact ⟨h, hw⟩
  · exact d.write32_keeps cfg o f p h hw

/-! ## The kick -/

/-- The kick's channel id always names a channel (42_command_dispatcher.md R164). -/
theorem chanOf_kickChid (f : RegFile) : ∃ c : ChanId, chanOf (kickChid f) = some c ∧
    c.val = (f.cache1Push1.extractLsb' 0 5).toNat := by
  have h : (kickChid f).toNat = (f.cache1Push1.extractLsb' 0 5).toNat := by
    have := (f.cache1Push1.extractLsb' 0 5).isLt
    simp only [kickChid, BitVec.toNat_setWidth]; omega
  have hlt := (f.cache1Push1.extractLsb' 0 5).isLt
  refine ⟨⟨(kickChid f).toNat, by omega⟩, ?_, by simp [h]⟩
  simp [chanOf, show (kickChid f).toNat < 32 by omega]

/-- What holds before a kick and is kept by every 3D method on the kicked channel holds after it
(42_command_dispatcher.md R163). -/
theorem Device.kick_induct {P : Device → Prop} (cfg : Config) (d : Device) (h0 : P d)
    (hs : ∀ c, chanOf (kickChid d.reg) = some c → ∀ m p e, P e → P (runD3d cfg m c p e)) :
    P (d.kick cfg) := by
  unfold Device.kick
  split
  · next c hc =>
    generalize kickCommands cfg d = l
    suffices h : ∀ e, P e → P (l.foldl (fun d mp => runD3d cfg mp.1 c mp.2 d) e) from h d h0
    induction l with
    | nil => exact fun e he => he
    | cons mp l ih => exact fun e he => ih _ (hs c hc mp.1 mp.2 e he)
  · exact h0

/-- The kick with the stub is the one setter (42_command_dispatcher.md R163). -/
theorem Device.kick_stub (cfg : Config) (d : Device) (h : cfg.kickFetch = .stub) {c : ChanId}
    (hc : chanOf (kickChid d.reg) = some c) : d.kick cfg = d.semaphoreObject c cfg.kickParam := by
  simp [Device.kick, hc, kickCommands, h, runD3d]

@[simp] theorem Device.kick_reg (cfg : Config) (d : Device) : (d.kick cfg).reg = d.reg :=
  Device.kick_induct (P := fun e => e.reg = d.reg) cfg d rfl fun _ _ _ _ _ he => by simp [he]

@[simp] theorem Device.kick_irq (cfg : Config) (d : Device) : (d.kick cfg).irq = d.irq :=
  Device.kick_induct (P := fun e => e.irq = d.irq) cfg d rfl fun _ _ _ _ _ he => by simp [he]

/-! ## The dispatcher -/

/-- What the 3D method table does (43_d3d_methods.md R170, R182). -/
theorem execD3dMethod_cases (cfg : Config) (c : ChanId) (code p : Word) (d : Device) :
    (∃ m, cfg.d3dMethodOf code = some m ∧ execD3dMethod cfg c code p d = (runD3d cfg m c p d, true)) ∨
    (cfg.d3dMethodOf code = none ∧ execD3dMethod cfg c code p d = (d, false)) := by
  unfold execD3dMethod
  split
  · exact .inl ⟨_, ‹_›, rfl⟩
  · exact .inr ⟨‹_›, rfl⟩

/-- What the 2D-surface engine does (42_command_dispatcher.md R154 to R158). -/
theorem execSurf2d_cases (cfg : Config) (c : ChanId) (code p : Word) (d : Device) :
    (∃ x, execSurf2d cfg c code p d = (d.setSurf2d c x, true)) ∨
    (cfg.surf2dMethodOf code = none ∧ execSurf2d cfg c code p d = (d, false)) := by
  unfold execSurf2d
  split
  case h_5 h => exact .inr ⟨h, rfl⟩
  all_goals exact .inl ⟨_, rfl⟩

/-- What a command can do to the device (42_command_dispatcher.md R150, R165). -/
theorem execEngine_cases (cfg : Config) (chid subc cls code p : Word) (d : Device) :
    (∃ c m, chanOf chid = some c ∧
      execEngine cfg chid subc cls code p d = (runD3d cfg m c p d, true)) ∨
    (∃ c x, chanOf chid = some c ∧
      execEngine cfg chid subc cls code p d = (d.setSurf2d c x, true)) ∨
    (∃ b, execEngine cfg chid subc cls code p d = (d, b)) := by
  unfold execEngine
  split
  · exact .inr (.inr ⟨_, rfl⟩)
  · next c hc =>
    split
    · exact .inr (.inr ⟨_, rfl⟩)
    · split
      · obtain ⟨m, -, h⟩ | ⟨-, h⟩ := execD3dMethod_cases cfg c code p d
        · exact .inl ⟨c, m, hc, h⟩
        · exact .inr (.inr ⟨_, h⟩)
      · obtain ⟨x, h⟩ | ⟨-, h⟩ := execSurf2d_cases cfg c code p d
        · exact .inr (.inl ⟨c, x, hc, h⟩)
        · exact .inr (.inr ⟨_, h⟩)
      all_goals exact .inr (.inr ⟨_, rfl⟩)

/-- What a `D3DCMD` command can do to the device (42_command_dispatcher.md R166). -/
theorem execD3d_cases (cfg : Config) (chid code p : Word) (d : Device) :
    (∃ c m, chanOf chid = some c ∧ execD3d cfg chid code p d = (runD3d cfg m c p d, true)) ∨
    execD3d cfg chid code p d = (d, false) := by
  unfold execD3d
  split
  · exact .inr rfl
  · next c hc =>
    obtain ⟨m, -, h⟩ | ⟨-, h⟩ := execD3dMethod_cases cfg c code p d
    · exact .inl ⟨c, m, hc, h⟩
    · exact .inr h

/-! ## What an operation can do to the device -/

/-- The registers whose writes re-drive the line: the five inputs of the aggregator
(41_interrupt_aggregator.md R140). -/
def aggregatorInputs : List Reg := [.mcIntrEn, .busIntr, .busIntrEn, .fifoIntr, .fifoIntrEn]

/-- The ways in which an operation can change the device, each with what it says of the operation. -/
inductive DeviceChange (cfg : Config) (i : Instr) (d : Device) : Device → Prop
  /-- It changes nothing. -/
  | same : DeviceChange cfg i d d
  /-- It stores a plain register. -/
  | plain (r : Reg) (v : Word) (h : r ∉ aggregatorInputs) : DeviceChange cfg i d (d.writeReg r v)
  /-- It writes an input of the aggregator and re-drives the line. -/
  | driven (r : Reg) (v : Word) (h : r ∈ aggregatorInputs) (hi : i.drivesLine = true) :
      DeviceChange cfg i d (d.writeReg r v).updateIrq
  /-- It acknowledges through `MC_INTR` and re-drives the line. -/
  | acked (b c : Bool) (hi : i.drivesLine = true) :
      DeviceChange cfg i d ((d.ackLatch .busIntr b).ackLatch .fifoIntr c).updateIrq
  /-- It runs a 3D method on the channel it acts on. -/
  | method (m : D3DMethod) (c : ChanId) (p : Word) (hc : i.targetChannel d.reg = some c)
      (hm : m = .semaphoreAcquire → i.mayStore = true) : DeviceChange cfg i d (runD3d cfg m c p d)
  /-- It sets the Surf2DState of the channel it acts on. -/
  | surf2d (c : ChanId) (x : Surf2DState) (hc : i.targetChannel d.reg = some c) :
      DeviceChange cfg i d (d.setSurf2d c x)
  /-- It writes four bytes of the region. -/
  | linear (o f v : Word) (hi : i.mayStore = true) : DeviceChange cfg i d (d.write32 cfg o f v)
  /-- It writes bytes of the window. -/
  | window (a n : Nat) (v : Word) (hi : i.mayStore = true) :
      DeviceChange cfg i d (d.raminWrite cfg a n v)
  /-- It stores `CACHE1_PUT` and kicks. -/
  | putKick (v : Word) (hi : i = .wrCache1Put v) (hp : pushEnabled d.reg = true) :
      DeviceChange cfg i d ((d.writeReg .cache1Put v).kick cfg)
  /-- It kicks. -/
  | kick (hi : i = .kick) : DeviceChange cfg i d (d.kick cfg)
  /-- It resets the device. -/
  | reset (hi : i = .reset) : DeviceChange cfg i d d.resetAll

/-- Once for every operation: the device it leaves is one of the changes above, the parameters and the
environment's list stay. -/
theorem exec_change {i : Instr} {s t : State} (h : exec i s = .next t) :
    DeviceChange s.cfg i s.dev t.dev ∧ t.cfg = s.cfg ∧ t.env = s.env := by
  have key : ∀ (d : Device) (r : Ret), DeviceChange s.cfg i s.dev d → s.finish d r = .next t →
      DeviceChange s.cfg i s.dev t.dev ∧ t.cfg = s.cfg ∧ t.env = s.env := by
    intro d r hd he
    simp only [State.finish, Host.Outcome.next.injEq] at he
    subst he
    exact ⟨hd, rfl, rfl⟩
  cases i
  case wrMcIntr data => exact key _ _ (.acked _ _ rfl) h
  case wrMcIntrEn data => exact key _ _ (.driven _ _ (by decide) rfl) h
  case wrBusIntrEn data => exact key _ _ (.driven _ _ (by decide) rfl) h
  case wrFifoIntrEn data => exact key _ _ (.driven _ _ (by decide) rfl) h
  case wrBusIntr data => exact key _ _ (.driven _ _ (by decide) rfl) h
  case wrFifoIntr data => exact key _ _ (.driven _ _ (by decide) rfl) h
  case eventBus mask => exact key _ _ (.driven _ _ (by decide) rfl) h
  case eventFifo mask => exact key _ _ (.driven _ _ (by decide) rfl) h
  case wrCache1Put data =>
    refine key _ _ ?_ h
    split
    · exact .putKick data rfl ‹_›
    · exact .plain _ _ (by decide)
  case kick => exact key _ _ (.kick rfl) h
  case reset => exact key _ _ (.reset rfl) h
  case write32 o f v => exact key _ _ (.linear o f v rfl) h
  case raminWr a n v => exact key _ _ (.window a n v rfl) h
  case cmd chid subc cls code p =>
    refine key _ _ ?_ h
    obtain ⟨c, m, hc, e⟩ | ⟨c, x, hc, e⟩ | ⟨b, e⟩ :=
      execEngine_cases s.cfg chid subc cls code p s.dev <;> rw [e]
    · exact .method m c p hc fun _ => rfl
    · exact .surf2d c x hc
    · exact .same
  case d3dcmd chid code p =>
    refine key _ _ ?_ h
    obtain ⟨c, m, hc, e⟩ | e := execD3d_cases s.cfg chid code p s.dev <;> rw [e]
    · exact .method m c p hc fun _ => rfl
    · exact .same
  case kelvinSemaphoreObject via c code p => exact key _ _ (.method .semaphoreObject c p rfl nofun) h
  case kelvinSemaphoreOffset via c code p => exact key _ _ (.method .semaphoreOffset c p rfl nofun) h
  case kelvinClipHorizontal via c code p => exact key _ _ (.method .clipHorizontal c p rfl nofun) h
  case kelvinClipVertical via c code p => exact key _ _ (.method .clipVertical c p rfl nofun) h
  case kelvinSurfaceFormat via c code p => exact key _ _ (.method .surfaceFormat c p rfl nofun) h
  case kelvinSurfacePitch via c code p => exact key _ _ (.method .surfacePitch c p rfl nofun) h
  case kelvinSurfaceColorOffset via c code p =>
    exact key _ _ (.method .surfaceColorOffset c p rfl nofun) h
  case kelvinClearSurface via c code p => exact key _ _ (.method .clearSurface c p rfl nofun) h
  case kelvinColorClearValue via c code p => exact key _ _ (.method .colorClearValue c p rfl nofun) h
  case kelvinSemaphoreAcquire via c code p =>
    exact key _ _ (.method .semaphoreAcquire c p rfl fun _ => rfl) h
  case surf2dFormat c u k code p => exact key _ _ (.surf2d c _ rfl) h
  case surf2dPitch c u k code p => exact key _ _ (.surf2d c _ rfl) h
  case surf2dOffsetSrc c u k code p => exact key _ _ (.surf2d c _ rfl) h
  case surf2dOffsetDst c u k code p => exact key _ _ (.surf2d c _ rfl) h
  all_goals first | exact key _ _ .same h | exact key _ _ (.plain _ _ (by decide)) h

end Sys2Proof.Machine
end

