-- ==== Sys2Proof/Laws/PerInstr.lean ====
section
/-! SUPPORT. Statements about every operation as a piece of text: one lemma per constructor. -/

namespace Sys2Proof.Laws.RowFormat

/-- The record that presents an operation is of a format that the table gives its row
(30_encoding.md R78). -/
def Statement (i : Instr) : Prop := ∀ t, encode i = some t → t.format ∈ i.formats

theorem rdMcIntr : Statement (.rdMcIntr) := by
  intro t h; cases h; exact .head _

theorem wrMcIntr (data : Word) : Statement (.wrMcIntr data) := by
  intro t h; cases h; exact .head _

theorem rdMcIntrEn : Statement (.rdMcIntrEn) := by
  intro t h; cases h; exact .head _

theorem wrMcIntrEn (data : Word) : Statement (.wrMcIntrEn data) := by
  intro t h; cases h; exact .head _

theorem rdMcEnable : Statement (.rdMcEnable) := by
  intro t h; cases h; exact .head _

theorem wrMcEnable (data : Word) : Statement (.wrMcEnable data) := by
  intro t h; cases h; exact .head _

theorem rdBusIntr : Statement (.rdBusIntr) := by
  intro t h; cases h; exact .head _

theorem wrBusIntr (data : Word) : Statement (.wrBusIntr data) := by
  intro t h; cases h; exact .head _

theorem rdBusIntrEn : Statement (.rdBusIntrEn) := by
  intro t h; cases h; exact .head _

theorem wrBusIntrEn (data : Word) : Statement (.wrBusIntrEn data) := by
  intro t h; cases h; exact .head _

theorem rdFifoIntr : Statement (.rdFifoIntr) := by
  intro t h; cases h; exact .head _

theorem wrFifoIntr (data : Word) : Statement (.wrFifoIntr data) := by
  intro t h; cases h; exact .head _

theorem rdFifoIntrEn : Statement (.rdFifoIntrEn) := by
  intro t h; cases h; exact .head _

theorem wrFifoIntrEn (data : Word) : Statement (.wrFifoIntrEn data) := by
  intro t h; cases h; exact .head _

theorem rdFifoRamht : Statement (.rdFifoRamht) := by
  intro t h; cases h; exact .head _

theorem wrFifoRamht (data : Word) : Statement (.wrFifoRamht data) := by
  intro t h; cases h; exact .head _

theorem rdFifoRamfc : Statement (.rdFifoRamfc) := by
  intro t h; cases h; exact .head _

theorem wrFifoRamfc (data : Word) : Statement (.wrFifoRamfc data) := by
  intro t h; cases h; exact .head _

theorem rdFifoRamro : Statement (.rdFifoRamro) := by
  intro t h; cases h; exact .head _

theorem wrFifoRamro (data : Word) : Statement (.wrFifoRamro data) := by
  intro t h; cases h; exact .head _

theorem rdFifoMode : Statement (.rdFifoMode) := by
  intro t h; cases h; exact .head _

theorem wrFifoMode (data : Word) : Statement (.wrFifoMode data) := by
  intro t h; cases h; exact .head _

theorem rdCache1Push1 : Statement (.rdCache1Push1) := by
  intro t h; cases h; exact .head _

theorem wrCache1Push1 (data : Word) : Statement (.wrCache1Push1 data) := by
  intro t h; cases h; exact .head _

theorem rdCache1Put : Statement (.rdCache1Put) := by
  intro t h; cases h; exact .head _

theorem wrCache1Put (data : Word) : Statement (.wrCache1Put data) := by
  intro t h; cases h; exact .head _

theorem rdCache1DmaPush : Statement (.rdCache1DmaPush) := by
  intro t h; cases h; exact .head _

theorem wrCache1DmaPush (data : Word) : Statement (.wrCache1DmaPush data) := by
  intro t h; cases h; exact .head _

theorem rdCache1DmaInstance : Statement (.rdCache1DmaInstance) := by
  intro t h; cases h; exact .head _

theorem wrCache1DmaInstance (data : Word) : Statement (.wrCache1DmaInstance data) := by
  intro t h; cases h; exact .head _

theorem rdCache1DmaPut : Statement (.rdCache1DmaPut) := by
  intro t h; cases h; exact .head _

theorem wrCache1DmaPut (data : Word) : Statement (.wrCache1DmaPut data) := by
  intro t h; cases h; exact .head _

theorem rdCache1DmaGet : Statement (.rdCache1DmaGet) := by
  intro t h; cases h; exact .head _

theorem wrCache1DmaGet (data : Word) : Statement (.wrCache1DmaGet data) := by
  intro t h; cases h; exact .head _

theorem rdCache1RefCnt : Statement (.rdCache1RefCnt) := by
  intro t h; cases h; exact .head _

theorem wrCache1RefCnt (data : Word) : Statement (.wrCache1RefCnt data) := by
  intro t h; cases h; exact .head _

theorem rdCache1Pull : Statement (.rdCache1Pull) := by
  intro t h; cases h; exact .head _

theorem wrCache1Pull (data : Word) : Statement (.wrCache1Pull data) := by
  intro t h; cases h; exact .head _

theorem rdCache1Semaphore : Statement (.rdCache1Semaphore) := by
  intro t h; cases h; exact .head _

theorem wrCache1Semaphore (data : Word) : Statement (.wrCache1Semaphore data) := by
  intro t h; cases h; exact .head _

theorem rdBadsize (addr : Word) (size : Nat) : Statement (.rdBadsize addr size) := by
  intro t h; cases h; exact .head _

theorem wrBadsize (addr : Word) (size : Nat) (data : Word) : Statement (.wrBadsize addr size data) := by
  intro t h; cases h; exact .head _

theorem rdOor (addr : Word) : Statement (.rdOor addr) := by
  intro t h; cases h; exact .head _

theorem wrOor (addr : Word) (data : Word) : Statement (.wrOor addr data) := by
  intro t h; cases h; exact .head _

theorem rdUnknown (addr : Word) : Statement (.rdUnknown addr) := by
  intro t h; cases h; exact .head _

theorem wrUnknown (addr : Word) (data : Word) : Statement (.wrUnknown addr data) := by
  intro t h; cases h; exact .head _

theorem raminRd (addr : Nat) (size : Nat) : Statement (.raminRd addr size) := by
  intro t h; cases h; exact .head _

theorem raminWr (addr : Nat) (size : Nat) (data : Word) : Statement (.raminWr addr size data) := by
  intro t h; cases h; exact .head _

theorem read32 (object : Word) (offset : Word) : Statement (.read32 object offset) := by
  intro t h; cases h; exact .head _

theorem write32 (object : Word) (offset : Word) (value : Word) : Statement (.write32 object offset value) := by
  intro t h; cases h; exact .head _

theorem cmd (chid : Word) (subc : Word) (cls : Word) (method : Word) (param : Word) : Statement (.cmd chid subc cls method param) := by
  intro t h; cases h; exact .head _

theorem d3dcmd (chid : Word) (method : Word) (param : Word) : Statement (.d3dcmd chid method param) := by
  intro t h; cases h; exact .head _

theorem cmdBadchid (chid : Word) (subc : Word) (cls : Word) (method : Word) (param : Word) : Statement (.cmdBadchid chid subc cls method param) := by
  intro t h; cases h; exact .head _

theorem cmdBadsubc (chid : ChanId) (subc : Word) (cls : Word) (method : Word) (param : Word) : Statement (.cmdBadsubc chid subc cls method param) := by
  intro t h; cases h; exact .head _

theorem kelvinSemaphoreObject (via : Entry) (chid : ChanId) (method : Word) (param : Word) : Statement (.kelvinSemaphoreObject via chid method param) := by
  intro t h; cases via <;> cases h <;> simp [Entry.record, Transaction.format, Instr.formats]

theorem kelvinSemaphoreOffset (via : Entry) (chid : ChanId) (method : Word) (param : Word) : Statement (.kelvinSemaphoreOffset via chid method param) := by
  intro t h; cases via <;> cases h <;> simp [Entry.record, Transaction.format, Instr.formats]

theorem kelvinClipHorizontal (via : Entry) (chid : ChanId) (method : Word) (param : Word) : Statement (.kelvinClipHorizontal via chid method param) := by
  intro t h; cases via <;> cases h <;> simp [Entry.record, Transaction.format, Instr.formats]

theorem kelvinClipVertical (via : Entry) (chid : ChanId) (method : Word) (param : Word) : Statement (.kelvinClipVertical via chid method param) := by
  intro t h; cases via <;> cases h <;> simp [Entry.record, Transaction.format, Instr.formats]

theorem kelvinSurfaceFormat (via : Entry) (chid : ChanId) (method : Word) (param : Word) : Statement (.kelvinSurfaceFormat via chid method param) := by
  intro t h; cases via <;> cases h <;> simp [Entry.record, Transaction.format, Instr.formats]

theorem kelvinSurfacePitch (via : Entry) (chid : ChanId) (method : Word) (param : Word) : Statement (.kelvinSurfacePitch via chid method param) := by
  intro t h; cases via <;> cases h <;> simp [Entry.record, Transaction.format, Instr.formats]

theorem kelvinSurfaceColorOffset (via : Entry) (chid : ChanId) (method : Word) (param : Word) : Statement (.kelvinSurfaceColorOffset via chid method param) := by
  intro t h; cases via <;> cases h <;> simp [Entry.record, Transaction.format, Instr.formats]

theorem kelvinClearSurface (via : Entry) (chid : ChanId) (method : Word) (param : Word) : Statement (.kelvinClearSurface via chid method param) := by
  intro t h; cases via <;> cases h <;> simp [Entry.record, Transaction.format, Instr.formats]

theorem kelvinColorClearValue (via : Entry) (chid : ChanId) (method : Word) (param : Word) : Statement (.kelvinColorClearValue via chid method param) := by
  intro t h; cases via <;> cases h <;> simp [Entry.record, Transaction.format, Instr.formats]

theorem kelvinSemaphoreAcquire (via : Entry) (chid : ChanId) (method : Word) (param : Word) : Statement (.kelvinSemaphoreAcquire via chid method param) := by
  intro t h; cases via <;> cases h <;> simp [Entry.record, Transaction.format, Instr.formats]

theorem kelvinUnknown (via : Entry) (chid : ChanId) (method : Word) (param : Word) : Statement (.kelvinUnknown via chid method param) := by
  intro t h; cases via <;> cases h <;> simp [Entry.record, Transaction.format, Instr.formats]

theorem surf2dFormat (chid : ChanId) (subc : SubId) (cls : Word) (method : Word) (param : Word) : Statement (.surf2dFormat chid subc cls method param) := by
  intro t h; cases h; exact .head _

theorem surf2dPitch (chid : ChanId) (subc : SubId) (cls : Word) (method : Word) (param : Word) : Statement (.surf2dPitch chid subc cls method param) := by
  intro t h; cases h; exact .head _

theorem surf2dOffsetSrc (chid : ChanId) (subc : SubId) (cls : Word) (method : Word) (param : Word) : Statement (.surf2dOffsetSrc chid subc cls method param) := by
  intro t h; cases h; exact .head _

theorem surf2dOffsetDst (chid : ChanId) (subc : SubId) (cls : Word) (method : Word) (param : Word) : Statement (.surf2dOffsetDst chid subc cls method param) := by
  intro t h; cases h; exact .head _

theorem surf2dUnknown (chid : ChanId) (subc : SubId) (cls : Word) (method : Word) (param : Word) : Statement (.surf2dUnknown chid subc cls method param) := by
  intro t h; cases h; exact .head _

theorem gdiAny (chid : ChanId) (subc : SubId) (cls : Word) (method : Word) (param : Word) : Statement (.gdiAny chid subc cls method param) := by
  intro t h; cases h; exact .head _

theorem m2mfAny (chid : ChanId) (subc : SubId) (cls : Word) (method : Word) (param : Word) : Statement (.m2mfAny chid subc cls method param) := by
  intro t h; cases h; exact .head _

theorem ifcAny (chid : ChanId) (subc : SubId) (cls : Word) (method : Word) (param : Word) : Statement (.ifcAny chid subc cls method param) := by
  intro t h; cases h; exact .head _

theorem classUnknown (chid : ChanId) (subc : SubId) (cls : Word) (method : Word) (param : Word) : Statement (.classUnknown chid subc cls method param) := by
  intro t h; cases h; exact .head _

theorem eventBus (mask : Word) : Statement (.eventBus mask) := by
  intro t h; cases h; exact .head _

theorem eventFifo (mask : Word) : Statement (.eventFifo mask) := by
  intro t h; cases h; exact .head _

theorem reset : Statement (.reset) := by
  intro t h; cases h; exact .head _

theorem kick : Statement (.kick) := by
  intro t h; exact nomatch h

end Sys2Proof.Laws.RowFormat
end

