-- ==== Sys2Proof/Tests/Slice0.lean ====
section
/-! SUPPORT. The model's own tests. Expected values are those of 95_test_vectors.md where a vector is named, and
otherwise worked out by hand from the rule named. A witness shows that the hypotheses of a statement can be
met. -/

namespace Sys2Proof.Tests

open Sys2Proof.Machine

/-! ## A small device -/

/-- Sizes and byte order of 95_test_vectors.md; class tags and method codes are arbitrary. -/
def cfg : Config where
  regionBelow := 0xF0000
  classTags := [(0xA0, .kelvin), (0xA1, .surf2d), (0xA2, .gdi), (0xA3, .m2mf), (0xA4, .ifc)]
  d3dCodes := [(0x10, .semaphoreObject), (0x11, .semaphoreOffset), (0x12, .clipHorizontal),
    (0x13, .clipVertical), (0x14, .surfaceFormat), (0x15, .surfacePitch), (0x16, .surfaceColorOffset),
    (0x17, .clearSurface), (0x18, .colorClearValue), (0x19, .semaphoreAcquire)]
  surf2dCodes := [(0x10, .format), (0x11, .pitch), (0x12, .offsetSrc), (0x13, .offsetDst)]
  kickParam := 0x77

/-- The reset state with these parameters. -/
def s0 : State := { State.reset with cfg := cfg }

/-- `s0` with the given transactions presented. -/
def given (ts : List Transaction) : State := { s0 with env := ts }

/-- `s0` with one register written. -/
def withReg (r : Reg) (v : Word) : State := { s0 with dev := s0.dev.writeReg r v }

/-- `s0` with the latches `BUS_INTR = 0x5`, `FIFO_INTR = 0x3`. -/
def latched : State := { s0 with dev := (s0.dev.writeReg .busIntr 0x5).writeReg .fifoIntr 0x3 }

/-- `s0` with a semaphore configured on channel 0. -/
def sem (object offset : Word) : State :=
  { s0 with dev := (s0.dev.semaphoreObject 0 object).semaphoreOffset 0 offset }

/-- `s0` in big-endian order. -/
def big : State := { s0 with cfg := { cfg with byteOrder := .big } }

/-- The state an operation leaves. -/
def after (i : Instr) (s : State) : State :=
  match exec i s with
  | .next t => t
  | .fault _ => s
  | .refused _ => s

/-- What an operation returns. -/
def returned (i : Instr) (s : State) : Ret := (after i s).ret

/-- The bytes listed in the memory after an operation. -/
def bytes (i : Instr) (s : State) : Memory := (after i s).dev.mem

/-! ## Well-formedness: each check refuses an ill-formed term -/

theorem test_wf_refuses_rejected_accesses :
    (Instr.rdBadsize 0x100 4).wf cfg = false ∧
    (Instr.wrBadsize 0x100 4 0).wf cfg = false ∧
    (Instr.rdOor 0xFFFFFF).wf cfg = false ∧
    (Instr.wrOor 0xFFFFFF 0).wf cfg = false ∧
    (Instr.rdUnknown 0x100).wf cfg = false ∧
    (Instr.rdUnknown 0x1000000).wf cfg = false ∧
    (Instr.wrUnknown 0x140 0).wf cfg = false ∧
    (Instr.wrUnknown 0x1000000 0).wf cfg = false := by decide

theorem test_wf_refuses_rejected_commands :
    (Instr.cmdBadchid 31 0 0 0 0).wf cfg = false ∧
    (Instr.cmdBadsubc 0 7 0 0 0).wf cfg = false ∧
    (Instr.kelvinUnknown .d3dcmd 0 0x10 0).wf cfg = false ∧
    (Instr.surf2dUnknown 0 0 0xA1 0x10 0).wf cfg = false ∧
    (Instr.surf2dUnknown 0 0 0xA0 0x99 0).wf cfg = false ∧
    (Instr.gdiAny 0 0 0xA3 0 0).wf cfg = false ∧
    (Instr.m2mfAny 0 0 0xA4 0 0).wf cfg = false ∧
    (Instr.ifcAny 0 0 0xA2 0 0).wf cfg = false ∧
    (Instr.classUnknown 0 0 0xA0 0 0).wf cfg = false := by decide

theorem test_wf_refuses_wrong_3d_method :
    (Instr.kelvinSemaphoreObject .d3dcmd 0 0x11 0).wf cfg = false ∧
    (Instr.kelvinSemaphoreOffset .d3dcmd 0 0x12 0).wf cfg = false ∧
    (Instr.kelvinClipHorizontal .d3dcmd 0 0x13 0).wf cfg = false ∧
    (Instr.kelvinClipVertical .d3dcmd 0 0x14 0).wf cfg = false ∧
    (Instr.kelvinSurfaceFormat .d3dcmd 0 0x15 0).wf cfg = false ∧
    (Instr.kelvinSurfacePitch .d3dcmd 0 0x16 0).wf cfg = false ∧
    (Instr.kelvinSurfaceColorOffset .d3dcmd 0 0x17 0).wf cfg = false ∧
    (Instr.kelvinClearSurface .d3dcmd 0 0x18 0).wf cfg = false ∧
    (Instr.kelvinColorClearValue .d3dcmd 0 0x19 0).wf cfg = false ∧
    (Instr.kelvinSemaphoreAcquire .d3dcmd 0 0x10 0).wf cfg = false := by decide

theorem test_wf_refuses_wrong_3d_class :
    (Instr.kelvinSemaphoreObject (.cmd 0 0xA1) 0 0x10 0).wf cfg = false ∧
    (Instr.kelvinSemaphoreOffset (.cmd 0 0xA1) 0 0x11 0).wf cfg = false ∧
    (Instr.kelvinClipHorizontal (.cmd 0 0xA1) 0 0x12 0).wf cfg = false ∧
    (Instr.kelvinClipVertical (.cmd 0 0xA1) 0 0x13 0).wf cfg = false ∧
    (Instr.kelvinSurfaceFormat (.cmd 0 0xA1) 0 0x14 0).wf cfg = false ∧
    (Instr.kelvinSurfacePitch (.cmd 0 0xA1) 0 0x15 0).wf cfg = false ∧
    (Instr.kelvinSurfaceColorOffset (.cmd 0 0xA1) 0 0x16 0).wf cfg = false ∧
    (Instr.kelvinClearSurface (.cmd 0 0xA1) 0 0x17 0).wf cfg = false ∧
    (Instr.kelvinColorClearValue (.cmd 0 0xA1) 0 0x18 0).wf cfg = false ∧
    (Instr.kelvinSemaphoreAcquire (.cmd 0 0xA1) 0 0x19 0).wf cfg = false := by decide

theorem test_wf_refuses_wrong_2d_method_or_class :
    (Instr.surf2dFormat 0 0 0xA1 0x11 0).wf cfg = false ∧ (Instr.surf2dFormat 0 0 0xA0 0x10 0).wf cfg = false ∧
    (Instr.surf2dPitch 0 0 0xA1 0x12 0).wf cfg = false ∧ (Instr.surf2dPitch 0 0 0xA0 0x11 0).wf cfg = false ∧
    (Instr.surf2dOffsetSrc 0 0 0xA1 0x13 0).wf cfg = false ∧ (Instr.surf2dOffsetSrc 0 0 0xA0 0x12 0).wf cfg = false ∧
    (Instr.surf2dOffsetDst 0 0 0xA1 0x10 0).wf cfg = false ∧ (Instr.surf2dOffsetDst 0 0 0xA0 0x13 0).wf cfg = false := by decide

/-! ## Decoding: a record of every row, written out from 30_encoding.md R70 and 10_state.md R10 -/

theorem test_decode_register_reads :
    decode cfg (.mmioRead 0x00000100 4) = .rdMcIntr ∧
    decode cfg (.mmioRead 0x00000140 4) = .rdMcIntrEn ∧
    decode cfg (.mmioRead 0x00000200 4) = .rdMcEnable ∧
    decode cfg (.mmioRead 0x00001100 4) = .rdBusIntr ∧
    decode cfg (.mmioRead 0x00001140 4) = .rdBusIntrEn ∧
    decode cfg (.mmioRead 0x00002100 4) = .rdFifoIntr ∧
    decode cfg (.mmioRead 0x00002140 4) = .rdFifoIntrEn ∧
    decode cfg (.mmioRead 0x00002210 4) = .rdFifoRamht ∧
    decode cfg (.mmioRead 0x00002214 4) = .rdFifoRamfc ∧
    decode cfg (.mmioRead 0x00002218 4) = .rdFifoRamro ∧
    decode cfg (.mmioRead 0x00002504 4) = .rdFifoMode ∧
    decode cfg (.mmioRead 0x00003204 4) = .rdCache1Push1 ∧
    decode cfg (.mmioRead 0x00003210 4) = .rdCache1Put ∧
    decode cfg (.mmioRead 0x00003220 4) = .rdCache1DmaPush ∧
    decode cfg (.mmioRead 0x00003224 4) = .rdCache1DmaInstance ∧
    decode cfg (.mmioRead 0x00003240 4) = .rdCache1DmaPut ∧
    decode cfg (.mmioRead 0x00003244 4) = .rdCache1DmaGet ∧
    decode cfg (.mmioRead 0x00003248 4) = .rdCache1RefCnt ∧
    decode cfg (.mmioRead 0x00003250 4) = .rdCache1Pull ∧
    decode cfg (.mmioRead 0x00003254 4) = .rdCache1Semaphore :=
  ⟨rfl, rfl, rfl, rfl, rfl, rfl, rfl, rfl, rfl, rfl, rfl, rfl, rfl, rfl, rfl, rfl, rfl, rfl, rfl, rfl⟩

theorem test_decode_register_writes :
    decode cfg (.mmioWrite 0x00000100 4 0x1000) = .wrMcIntr 0x1000 ∧
    decode cfg (.mmioWrite 0x00000140 4 0x1001) = .wrMcIntrEn 0x1001 ∧
    decode cfg (.mmioWrite 0x00000200 4 0x1002) = .wrMcEnable 0x1002 ∧
    decode cfg (.mmioWrite 0x00001100 4 0x1003) = .wrBusIntr 0x1003 ∧
    decode cfg (.mmioWrite 0x00001140 4 0x1004) = .wrBusIntrEn 0x1004 ∧
    decode cfg (.mmioWrite 0x00002100 4 0x1005) = .wrFifoIntr 0x1005 ∧
    decode cfg (.mmioWrite 0x00002140 4 0x1006) = .wrFifoIntrEn 0x1006 ∧
    decode cfg (.mmioWrite 0x00002210 4 0x1007) = .wrFifoRamht 0x1007 ∧
    decode cfg (.mmioWrite 0x00002214 4 0x1008) = .wrFifoRamfc 0x1008 ∧
    decode cfg (.mmioWrite 0x00002218 4 0x1009) = .wrFifoRamro 0x1009 ∧
    decode cfg (.mmioWrite 0x00002504 4 0x100a) = .wrFifoMode 0x100a ∧
    decode cfg (.mmioWrite 0x00003204 4 0x100b) = .wrCache1Push1 0x100b ∧
    decode cfg (.mmioWrite 0x00003210 4 0x100c) = .wrCache1Put 0x100c ∧
    decode cfg (.mmioWrite 0x00003220 4 0x100d) = .wrCache1DmaPush 0x100d ∧
    decode cfg (.mmioWrite 0x00003224 4 0x100e) = .wrCache1DmaInstance 0x100e ∧
    decode cfg (.mmioWrite 0x00003240 4 0x100f) = .wrCache1DmaPut 0x100f ∧
    decode cfg (.mmioWrite 0x00003244 4 0x1010) = .wrCache1DmaGet 0x1010 ∧
    decode cfg (.mmioWrite 0x00003248 4 0x1011) = .wrCache1RefCnt 0x1011 ∧
    decode cfg (.mmioWrite 0x00003250 4 0x1012) = .wrCache1Pull 0x1012 ∧
    decode cfg (.mmioWrite 0x00003254 4 0x1013) = .wrCache1Semaphore 0x1013 :=
  ⟨rfl, rfl, rfl, rfl, rfl, rfl, rfl, rfl, rfl, rfl, rfl, rfl, rfl, rfl, rfl, rfl, rfl, rfl, rfl, rfl⟩

/-- V2.1-4, -5, -7 to -12. -/
theorem test_decode_rejected_accesses :
    decode cfg (.mmioRead 0x00000200 1) = .rdBadsize 0x200 1 ∧
    decode cfg (.mmioWrite 0x00000140 2 0xFFFF) = .wrBadsize 0x140 2 0xFFFF ∧
    decode cfg (.mmioRead 0x01000200 4) = .rdOor 0x1000200 ∧
    decode cfg (.mmioWrite 0x01000140 4 0x101) = .wrOor 0x1000140 0x101 ∧
    decode cfg (.mmioRead 0x00fffffc 4) = .rdUnknown 0xFFFFFC ∧
    decode cfg (.mmioWrite 0x00000104 4 0xFFFFFFFF) = .wrUnknown 0x104 0xFFFFFFFF ∧
    decode cfg (.mmioRead 0x00000201 4) = .rdUnknown 0x201 ∧
    decode cfg (.mmioRead 0x01000000 1) = .rdBadsize 0x1000000 1 :=
  ⟨rfl, rfl, rfl, rfl, rfl, rfl, rfl, rfl⟩

theorem test_decode_shim :
    decode cfg (.raminRead 0x10 4) = .raminRd 0x10 4 ∧
    decode cfg (.raminWrite 0x11 1 0x1AB) = .raminWr 0x11 1 0x1AB ∧
    decode cfg (.linRead 0x1000 0x20) = .read32 0x1000 0x20 ∧
    decode cfg (.linWrite 0x1000 0x20 0xDEADBEEF) = .write32 0x1000 0x20 0xDEADBEEF :=
  ⟨rfl, rfl, rfl, rfl⟩

theorem test_decode_3d_by_d3dcmd :
    decode cfg (.d3dcmd 5 0x10 2) = .kelvinSemaphoreObject .d3dcmd 5 0x10 2 ∧
    decode cfg (.d3dcmd 5 0x11 2) = .kelvinSemaphoreOffset .d3dcmd 5 0x11 2 ∧
    decode cfg (.d3dcmd 5 0x12 2) = .kelvinClipHorizontal .d3dcmd 5 0x12 2 ∧
    decode cfg (.d3dcmd 5 0x13 2) = .kelvinClipVertical .d3dcmd 5 0x13 2 ∧
    decode cfg (.d3dcmd 5 0x14 2) = .kelvinSurfaceFormat .d3dcmd 5 0x14 2 ∧
    decode cfg (.d3dcmd 5 0x15 2) = .kelvinSurfacePitch .d3dcmd 5 0x15 2 ∧
    decode cfg (.d3dcmd 5 0x16 2) = .kelvinSurfaceColorOffset .d3dcmd 5 0x16 2 ∧
    decode cfg (.d3dcmd 5 0x17 2) = .kelvinClearSurface .d3dcmd 5 0x17 2 ∧
    decode cfg (.d3dcmd 5 0x18 2) = .kelvinColorClearValue .d3dcmd 5 0x18 2 ∧
    decode cfg (.d3dcmd 5 0x19 2) = .kelvinSemaphoreAcquire .d3dcmd 5 0x19 2 ∧
    decode cfg (.d3dcmd 5 0x1A 2) = .kelvinUnknown .d3dcmd 5 0x1A 2 :=
  ⟨rfl, rfl, rfl, rfl, rfl, rfl, rfl, rfl, rfl, rfl, rfl⟩

theorem test_decode_3d_by_cmd :
    decode cfg (.cmd 31 7 0xA0 0x10 2) = .kelvinSemaphoreObject (.cmd 7 0xA0) 31 0x10 2 ∧
    decode cfg (.cmd 31 7 0xA0 0x11 2) = .kelvinSemaphoreOffset (.cmd 7 0xA0) 31 0x11 2 ∧
    decode cfg (.cmd 31 7 0xA0 0x12 2) = .kelvinClipHorizontal (.cmd 7 0xA0) 31 0x12 2 ∧
    decode cfg (.cmd 31 7 0xA0 0x13 2) = .kelvinClipVertical (.cmd 7 0xA0) 31 0x13 2 ∧
    decode cfg (.cmd 31 7 0xA0 0x14 2) = .kelvinSurfaceFormat (.cmd 7 0xA0) 31 0x14 2 ∧
    decode cfg (.cmd 31 7 0xA0 0x15 2) = .kelvinSurfacePitch (.cmd 7 0xA0) 31 0x15 2 ∧
    decode cfg (.cmd 31 7 0xA0 0x16 2) = .kelvinSurfaceColorOffset (.cmd 7 0xA0) 31 0x16 2 ∧
    decode cfg (.cmd 31 7 0xA0 0x17 2) = .kelvinClearSurface (.cmd 7 0xA0) 31 0x17 2 ∧
    decode cfg (.cmd 31 7 0xA0 0x18 2) = .kelvinColorClearValue (.cmd 7 0xA0) 31 0x18 2 ∧
    decode cfg (.cmd 31 7 0xA0 0x19 2) = .kelvinSemaphoreAcquire (.cmd 7 0xA0) 31 0x19 2 ∧
    decode cfg (.cmd 31 7 0xA0 0x1A 2) = .kelvinUnknown (.cmd 7 0xA0) 31 0x1A 2 :=
  ⟨rfl, rfl, rfl, rfl, rfl, rfl, rfl, rfl, rfl, rfl, rfl⟩

theorem test_decode_2d :
    decode cfg (.cmd 2 1 0xA1 0x10 0xB) = .surf2dFormat 2 1 0xA1 0x10 0xB ∧
    decode cfg (.cmd 2 1 0xA1 0x11 0xB) = .surf2dPitch 2 1 0xA1 0x11 0xB ∧
    decode cfg (.cmd 2 1 0xA1 0x12 0xB) = .surf2dOffsetSrc 2 1 0xA1 0x12 0xB ∧
    decode cfg (.cmd 2 1 0xA1 0x13 0xB) = .surf2dOffsetDst 2 1 0xA1 0x13 0xB ∧
    decode cfg (.cmd 2 1 0xA1 0x14 0xB) = .surf2dUnknown 2 1 0xA1 0x14 0xB :=
  ⟨rfl, rfl, rfl, rfl, rfl⟩

theorem test_decode_other_classes :
    decode cfg (.cmd 0 0 0xA2 0x1A 0xDEAD) = .gdiAny 0 0 0xA2 0x1A 0xDEAD ∧
    decode cfg (.cmd 0 0 0xA3 0 0) = .m2mfAny 0 0 0xA3 0 0 ∧
    decode cfg (.cmd 0 0 0xA4 0xFFFFFFFF 0xFFFFFFFF) = .ifcAny 0 0 0xA4 0xFFFFFFFF 0xFFFFFFFF ∧
    decode cfg (.cmd 0 0 0xA5 0x15 1) = .classUnknown 0 0 0xA5 0x15 1 :=
  ⟨rfl, rfl, rfl, rfl⟩

/-- V2.4-3, V2.4-4, V2.4-16. -/
theorem test_decode_bad_indices :
    decode cfg (.cmd 32 8 0xA5 0x1A 0) = .cmdBadchid 32 8 0xA5 0x1A 0 ∧
    decode cfg (.cmd 0 8 0xA0 0x15 0x100) = .cmdBadsubc 0 8 0xA0 0x15 0x100 ∧
    decode cfg (.d3dcmd 32 0x10 1) = .d3dcmd 32 0x10 1 :=
  ⟨rfl, rfl, rfl⟩

theorem test_decode_events_and_reset :
    decode cfg (.evtBus 0x10) = .eventBus 0x10 ∧
    decode cfg (.evtFifo 0x1) = .eventFifo 0x1 ∧
    decode cfg .rst = .reset :=
  ⟨rfl, rfl, rfl⟩

/-- The two entry points are named by their formats, and `KICK` has no record (30_encoding.md R78). -/
theorem test_entry_points_and_kick :
    entryPoint (.cmd 3 0 0xA0 0x19 1) = some (.cmd 3 0 0xA0 0x19 1) ∧
    entryPoint (.d3dcmd 3 0x19 1) = some (.d3dcmd 3 0x19 1) ∧
    encode .kick = none :=
  ⟨rfl, rfl, rfl⟩

/-- 30_encoding.md R82. -/
theorem test_pseudo_operations :
    decode cfg (ackMc 0x101) = .wrMcIntr 0x101 ∧
    decode cfg (ackBus 4) = .wrBusIntr 4 ∧
    decode cfg (ackFifo 8) = .wrFifoIntr 8 ∧
    decode cfg (pushEnable 4) = .wrCache1Push1 5 ∧
    decode cfg (kickPut 0x40) = .wrCache1Put 0x40 :=
  ⟨rfl, rfl, rfl, rfl, rfl⟩

theorem test_table_words :
    decodeTableWord 32 0x100 = some .rdMcIntr ∧
    decodeTableWord 32 0x3254 = some .rdCache1Semaphore ∧
    decodeTableWord 32 0x104 = some (.rdUnknown 0x104) :=
  ⟨rfl, rfl, rfl⟩

/-- The word of a table row runs as the first operation after reset. -/
theorem test_withFetchWord_runs : step (State.reset.withFetchWord 32 0x200) =
    .next { State.reset with ret := .word 1 } := rfl

/-! ## Register front end -/

/-- R102 to R138: a read returns what the register holds. -/
theorem test_register_reads :
    returned .rdMcIntrEn (withReg .mcIntrEn 0xa0000000) = .word 0xa0000000 ∧
    returned .rdMcEnable (withReg .mcEnable 0xa0000001) = .word 0xa0000001 ∧
    returned .rdBusIntr (withReg .busIntr 0xa0000002) = .word 0xa0000002 ∧
    returned .rdBusIntrEn (withReg .busIntrEn 0xa0000003) = .word 0xa0000003 ∧
    returned .rdFifoIntr (withReg .fifoIntr 0xa0000004) = .word 0xa0000004 ∧
    returned .rdFifoIntrEn (withReg .fifoIntrEn 0xa0000005) = .word 0xa0000005 ∧
    returned .rdFifoRamht (withReg .fifoRamht 0xa0000006) = .word 0xa0000006 ∧
    returned .rdFifoRamfc (withReg .fifoRamfc 0xa0000007) = .word 0xa0000007 ∧
    returned .rdFifoRamro (withReg .fifoRamro 0xa0000008) = .word 0xa0000008 ∧
    returned .rdFifoMode (withReg .fifoMode 0xa0000009) = .word 0xa0000009 ∧
    returned .rdCache1Push1 (withReg .cache1Push1 0xa000000a) = .word 0xa000000a ∧
    returned .rdCache1Put (withReg .cache1Put 0xa000000b) = .word 0xa000000b ∧
    returned .rdCache1DmaPush (withReg .cache1DmaPush 0xa000000c) = .word 0xa000000c ∧
    returned .rdCache1DmaInstance (withReg .cache1DmaInstance 0xa000000d) = .word 0xa000000d ∧
    returned .rdCache1DmaPut (withReg .cache1DmaPut 0xa000000e) = .word 0xa000000e ∧
    returned .rdCache1DmaGet (withReg .cache1DmaGet 0xa000000f) = .word 0xa000000f ∧
    returned .rdCache1RefCnt (withReg .cache1RefCnt 0xa0000010) = .word 0xa0000010 ∧
    returned .rdCache1Pull (withReg .cache1Pull 0xa0000011) = .word 0xa0000011 ∧
    returned .rdCache1Semaphore (withReg .cache1Semaphore 0xa0000012) = .word 0xa0000012 :=
  ⟨rfl, rfl, rfl, rfl, rfl, rfl, rfl, rfl, rfl, rfl, rfl, rfl, rfl, rfl, rfl, rfl, rfl, rfl, rfl⟩

/-- R103 to R139: all 32 bits are stored; a latch is not set by a write (10_state.md R31). -/
theorem test_register_writes :
    (after (.wrMcIntrEn 0xFFFFFFFF) s0).dev.reg.mcIntrEn = 0xFFFFFFFF ∧
    (after (.wrMcEnable 0xFFFFFFFF) s0).dev.reg.mcEnable = 0xFFFFFFFF ∧
    (after (.wrBusIntr 0xFFFFFFFF) s0).dev.reg.busIntr = 0x0 ∧
    (after (.wrBusIntrEn 0xFFFFFFFF) s0).dev.reg.busIntrEn = 0xFFFFFFFF ∧
    (after (.wrFifoIntr 0xFFFFFFFF) s0).dev.reg.fifoIntr = 0x0 ∧
    (after (.wrFifoIntrEn 0xFFFFFFFF) s0).dev.reg.fifoIntrEn = 0xFFFFFFFF ∧
    (after (.wrFifoRamht 0xFFFFFFFF) s0).dev.reg.fifoRamht = 0xFFFFFFFF ∧
    (after (.wrFifoRamfc 0xFFFFFFFF) s0).dev.reg.fifoRamfc = 0xFFFFFFFF ∧
    (after (.wrFifoRamro 0xFFFFFFFF) s0).dev.reg.fifoRamro = 0xFFFFFFFF ∧
    (after (.wrFifoMode 0xFFFFFFFF) s0).dev.reg.fifoMode = 0xFFFFFFFF ∧
    (after (.wrCache1Push1 0xFFFFFFFF) s0).dev.reg.cache1Push1 = 0xFFFFFFFF ∧
    (after (.wrCache1Put 0xFFFFFFFF) s0).dev.reg.cache1Put = 0xFFFFFFFF ∧
    (after (.wrCache1DmaPush 0xFFFFFFFF) s0).dev.reg.cache1DmaPush = 0xFFFFFFFF ∧
    (after (.wrCache1DmaInstance 0xFFFFFFFF) s0).dev.reg.cache1DmaInstance = 0xFFFFFFFF ∧
    (after (.wrCache1DmaPut 0xFFFFFFFF) s0).dev.reg.cache1DmaPut = 0xFFFFFFFF ∧
    (after (.wrCache1DmaGet 0xFFFFFFFF) s0).dev.reg.cache1DmaGet = 0xFFFFFFFF ∧
    (after (.wrCache1RefCnt 0xFFFFFFFF) s0).dev.reg.cache1RefCnt = 0xFFFFFFFF ∧
    (after (.wrCache1Pull 0xFFFFFFFF) s0).dev.reg.cache1Pull = 0xFFFFFFFF ∧
    (after (.wrCache1Semaphore 0xFFFFFFFF) s0).dev.reg.cache1Semaphore = 0xFFFFFFFF :=
  ⟨rfl, rfl, rfl, rfl, rfl, rfl, rfl, rfl, rfl, rfl, rfl, rfl, rfl, rfl, rfl, rfl, rfl, rfl, rfl⟩

/-- V2.1-1, V2.1-2, V2.7-1. -/
theorem test_reset_values_read :
    returned .rdMcEnable s0 = .word 1 ∧
    returned .rdFifoMode s0 = .word 1 ∧
    returned .rdMcIntr s0 = .word 0 :=
  ⟨rfl, rfl, rfl⟩

/-- V2.2-5: the status read is not masked by `MC_INTR_EN`. -/
theorem test_rdMcIntr_unmasked :
    returned .rdMcIntr { s0 with dev := (s0.dev.writeReg .busIntr 0x10).writeReg .busIntrEn 0x10 } = .word 1 := rfl

/-- V2.1-4 to V2.1-11. -/
theorem test_rejected_accesses_return :
    returned (.rdBadsize 0x200 1) s0 = .word 0 ∧
    returned (.rdOor 0x1000200) s0 = .word 0 ∧
    returned (.rdUnknown 0x201) s0 = .word 0 ∧
    after (.wrBadsize 0x200 3 0) s0 = s0 ∧
    after (.wrOor 0x1000140 0x101) s0 = s0 ∧
    after (.wrUnknown 0x104 0xFFFFFFFF) s0 = s0 :=
  ⟨rfl, rfl, rfl, rfl, rfl, rfl⟩

/-- V2.3-2, V2.3-4, V2.3-6, V2.3-7. -/
theorem test_latch_acknowledge :
    (after (.wrBusIntr 0x4) latched).dev.reg.busIntr = 0x1 ∧
    (after (.wrFifoIntr 0x1) latched).dev.reg.fifoIntr = 0x2 ∧
    (after (.wrMcIntr 0x1) latched).dev.reg.busIntr = 0 ∧
    (after (.wrMcIntr 0x1) latched).dev.reg.fifoIntr = 0x3 ∧
    (after (.wrMcIntr 0x100) latched).dev.reg.busIntr = 0x5 ∧
    (after (.wrMcIntr 0x100) latched).dev.reg.fifoIntr = 0 ∧
    (after (.wrMcIntr 0xFFFFFEFE) latched).dev.reg.busIntr = 0x5 ∧
    (after (.wrMcIntr 0xFFFFFEFE) latched).dev.reg.fifoIntr = 0x3 :=
  ⟨rfl, rfl, rfl, rfl, rfl, rfl, rfl, rfl⟩

/-- V2.1-16, V2.1-18, P3 step 5. -/
theorem test_put_write_kicks :
    (after (.wrCache1Put 0x40) (withReg .cache1Push1 3)).dev.reg.cache1Put = 0x40 ∧
    ((after (.wrCache1Put 0x40) (withReg .cache1Push1 3)).dev.channel 3).d3d.semaphoreObj = 0x77 ∧
    ((after (.wrCache1Put 0) (withReg .cache1Push1 0xFFFFFFE1)).dev.channel 1).d3d.semaphoreObj = 0x77 ∧
    ((after (.wrCache1Put 0x108) (withReg .cache1Push1 4)).dev.channel 4).d3d.semaphoreObj = 0 :=
  ⟨rfl, rfl, rfl, rfl⟩

/-- 42_command_dispatcher.md R163, R164: the kick by itself does not look at push enable. -/
theorem test_kick : ((after .kick (withReg .cache1Push1 4)).dev.channel 4).d3d.semaphoreObj = 0x77 := rfl

/-! ## Interrupts -/

/-- A register file with the five inputs of the aggregator. -/
def inputs (bus busEn fifo fifoEn mcEn : Word) : RegFile :=
  { RegFile.initial with
    busIntr := bus, busIntrEn := busEn, fifoIntr := fifo, fifoIntrEn := fifoEn, mcIntrEn := mcEn }

/-- Table 2.2, the word. -/
theorem test_aggregate_table :
    aggregate (inputs 0 0 0 0 0) = 0x000 ∧
    aggregate (inputs 0x10 0x10 0 0 0x1) = 0x001 ∧
    aggregate (inputs 0x10 0x10 0 0 0x100) = 0x001 ∧
    aggregate (inputs 0x10 0x01 0 0 0x1) = 0x000 ∧
    aggregate (inputs 0x10 0x10 0 0 0) = 0x001 ∧
    aggregate (inputs 0 0 0x1 0x1 0x100) = 0x100 ∧
    aggregate (inputs 0 0 0x1 0x1 0x1) = 0x100 ∧
    aggregate (inputs 0x80000000 0xFFFFFFFF 0x1 0xFFFFFFFF 0x101) = 0x101 ∧
    aggregate (inputs 0xFFFFFFFF 0xFFFFFFFF 0xFFFFFFFF 0xFFFFFFFF 0xFFFFFEFE) = 0x101 ∧
    aggregate (inputs 0xFFFFFFFF 0 0xFFFFFFFF 0 0xFFFFFFFF) = 0x000 ∧
    aggregate (inputs 0x1 0x1 0x1 0x1 0x100) = 0x101 := by decide

/-- Table 2.2, the line. -/
theorem test_line_table :
    line (inputs 0 0 0 0 0) = false ∧
    line (inputs 0x10 0x10 0 0 0x1) = true ∧
    line (inputs 0x10 0x10 0 0 0x100) = false ∧
    line (inputs 0x10 0x01 0 0 0x1) = false ∧
    line (inputs 0x10 0x10 0 0 0) = false ∧
    line (inputs 0 0 0x1 0x1 0x100) = true ∧
    line (inputs 0 0 0x1 0x1 0x1) = false ∧
    line (inputs 0x80000000 0xFFFFFFFF 0x1 0xFFFFFFFF 0x101) = true ∧
    line (inputs 0xFFFFFFFF 0xFFFFFFFF 0xFFFFFFFF 0xFFFFFFFF 0xFFFFFEFE) = false ∧
    line (inputs 0xFFFFFFFF 0 0xFFFFFFFF 0 0xFFFFFFFF) = false ∧
    line (inputs 0x1 0x1 0x1 0x1 0x100) = true := by decide

/-- V2.3-1, and R145. -/
theorem test_events :
    (after (.eventBus 0x4) latched).dev.reg.busIntr = 0x5 ∧
    (after (.eventFifo 0xC) latched).dev.reg.fifoIntr = 0xF ∧
    (after (.eventBus 0x5) s0).dev.out = [.irqLevel false] :=
  ⟨rfl, rfl, rfl⟩

/-- As V2.3-10. -/
theorem test_enable_write_drives_line :
    (after (.wrFifoIntrEn 0x2) { latched with dev := latched.dev.writeReg .mcIntrEn 0x100 }).dev.irq = true ∧
    (after (.wrFifoIntrEn 0x2) { latched with dev := latched.dev.writeReg .mcIntrEn 0x100 }).dev.out = [.irqLevel true] :=
  ⟨rfl, rfl⟩

/-! ## Dispatcher and engines -/

/-- P2, V2.5-1 to V2.5-6, V2.4-8. -/
theorem test_3d_setters :
    ((after (.kelvinSemaphoreObject .d3dcmd 3 0x10 0x1000) s0).dev.channel 3).d3d.semaphoreObj = 0x1000 ∧
    ((after (.kelvinSemaphoreOffset .d3dcmd 3 0x11 0x20) s0).dev.channel 3).d3d.semaphoreOffset = 0x20 ∧
    ((after (.kelvinClipHorizontal .d3dcmd 7 0x12 0x02800000) s0).dev.channel 7).d3d.clipHorizontal = 0x02800000 ∧
    ((after (.kelvinClipVertical .d3dcmd 7 0x13 0x01E00000) s0).dev.channel 7).d3d.clipVertical = 0x01E00000 ∧
    ((after (.kelvinSurfacePitch (.cmd 7 0xA0) 31 0x15 0x100) s0).dev.channel 31).d3d.surfacePitch = 0x100 ∧
    ((after (.kelvinSurfaceColorOffset .d3dcmd 7 0x16 0xFFFFFFFC) s0).dev.channel 7).d3d.surfaceColorOffset = 0xFFFFFFFC ∧
    ((after (.kelvinColorClearValue .d3dcmd 7 0x18 0xFF00FF00) s0).dev.channel 7).d3d.clearValue = 0xFF00FF00 ∧
    ((after (.kelvinClearSurface .d3dcmd 7 0x17 0xF3) s0).dev.channel 7).d3d.clearSurface = 0xF3 ∧
    (after (.kelvinClearSurface .d3dcmd 7 0x17 0) s0).dev.out = [.fullRedraw] :=
  ⟨rfl, rfl, rfl, rfl, rfl, rfl, rfl, rfl, rfl⟩

/-- Section 2.5. -/
theorem test_surface_format :
    ((after (.kelvinSurfaceFormat .d3dcmd 0 0x14 0xFFFFFFF3) s0).dev.channel 0).d3d.bytesPerPixel = 2 ∧
    ((after (.kelvinSurfaceFormat .d3dcmd 0 0x14 0x121) s0).dev.channel 0).d3d.bytesPerPixel = 1 ∧
    ((after (.kelvinSurfaceFormat .d3dcmd 0 0x14 0x10) s0).dev.channel 0).d3d.bytesPerPixel = 4 ∧
    ((after (.kelvinSurfaceFormat .d3dcmd 0 0x14 5) s0).dev.channel 0).d3d.bytesPerPixel = 4 ∧
    ((after (.kelvinSurfaceFormat .d3dcmd 0 0x14 0xFFFFFFF3) s0).dev.channel 0).d3d.surfaceFormat = 0xFFFFFFF3 :=
  ⟨rfl, rfl, rfl, rfl, rfl⟩

/-- V2.5-7, V2.5-9, V2.5-10, V2.5-12. -/
theorem test_semaphore_acquire :
    bytes (.kelvinSemaphoreAcquire .d3dcmd 0 0x19 0x11223344) s0 = [(0, 0x44), (1, 0x33), (2, 0x22), (3, 0x11)] ∧
    bytes (.kelvinSemaphoreAcquire .d3dcmd 0 0x19 0x04030201) (sem 0x1001 2) = [(0x1003, 1), (0x1004, 2), (0x1005, 3), (0x1006, 4)] ∧
    bytes (.kelvinSemaphoreAcquire .d3dcmd 0 0x19 0xA5A5A5A5) (sem 0xFFFFD 0) = [] ∧
    bytes (.kelvinSemaphoreAcquire .d3dcmd 0 0x19 1) (sem 0xFFFFFFFF 0x21) = [] ∧
    returned (.kelvinSemaphoreAcquire .d3dcmd 0 0x19 1) (sem 0xFFFFFFFF 0x21) = .success true :=
  ⟨rfl, rfl, rfl, rfl, rfl⟩

/-- V2.4-9 to V2.4-12. -/
theorem test_2d_setters :
    ((after (.surf2dFormat 2 1 0xA1 0x10 0xB) s0).dev.channel 2).surf2d.format = 0xB ∧
    ((after (.surf2dFormat 2 1 0xA1 0x10 0xB) s0).dev.channel 2).d3d.bytesPerPixel = 1 ∧
    ((after (.surf2dPitch 2 1 0xA1 0x11 0x04000400) s0).dev.channel 2).surf2d.pitch = 0x04000400 ∧
    ((after (.surf2dOffsetSrc 2 1 0xA1 0x12 0x1000) s0).dev.channel 2).surf2d.offsetSrc = 0x1000 ∧
    ((after (.surf2dOffsetDst 2 1 0xA1 0x13 0xFFFFFFFF) s0).dev.channel 2).surf2d.offsetDst = 0xFFFFFFFF :=
  ⟨rfl, rfl, rfl, rfl, rfl⟩

/-- V2.4-1 to V2.4-7, V2.4-13 to V2.4-15. -/
theorem test_dispatch_results :
    returned (.gdiAny 0 0 0xA2 0x1A 0xDEAD) s0 = .success true ∧
    returned (.m2mfAny 0 0 0xA3 0 0) s0 = .success true ∧
    returned (.ifcAny 0 0 0xA4 0xFFFFFFFF 0xFFFFFFFF) s0 = .success true ∧
    returned (.classUnknown 0 0 0xA5 0x15 1) s0 = .success false ∧
    returned (.kelvinUnknown .d3dcmd 0 0x1A 1) s0 = .success false ∧
    returned (.surf2dUnknown 0 0 0xA1 0x1A 1) s0 = .success false ∧
    returned (.cmdBadchid 32 0 0xA0 0x15 0x100) s0 = .success false ∧
    returned (.cmdBadsubc 0 8 0xA0 0x15 0x100) s0 = .success false :=
  ⟨rfl, rfl, rfl, rfl, rfl, rfl, rfl, rfl⟩

/-- V2.4-2, V2.4-8, V2.4-16, V2.4-17. -/
theorem test_entry_points :
    ((after (.cmd 31 7 0xA0 0x15 0x100) s0).dev.channel 31).d3d.surfacePitch = 0x100 ∧
    ((after (.cmd 31 7 0xA0 0x15 0x100) s0).dev.channel 31).bind.get 7 = 0 ∧
    returned (.cmd 0xFFFFFFFF 0 0xA2 0 0) s0 = .success false ∧
    returned (.d3dcmd 32 0x10 1) s0 = .success false ∧
    ((after (.d3dcmd 5 0x10 1) s0).dev.channel 5).d3d.semaphoreObj = 1 :=
  ⟨rfl, rfl, rfl, rfl, rfl⟩

/-! ## Memory shim -/

/-- `s0` after V2.6-1's write, with one more byte above it. -/
def stored : State := after (.raminWr 0xFFFF 1 0x77) (after (.write32 0x1000 0x20 0xDEADBEEF) s0)

/-- V2.6-1, V2.6-3 to V2.6-5, V2.6-15. -/
theorem test_write32 :
    bytes (.write32 0x1000 0x20 0xDEADBEEF) s0 = [(0x1020, 0xEF), (0x1021, 0xBE), (0x1022, 0xAD), (0x1023, 0xDE)] ∧
    bytes (.write32 0x1000 0x20 0xDEADBEEF) big = [(0x1020, 0xDE), (0x1021, 0xAD), (0x1022, 0xBE), (0x1023, 0xEF)] ∧
    bytes (.write32 0xFFFFC 0 0x01020304) s0 = [(0xFFFFC, 4), (0xFFFFD, 3), (0xFFFFE, 2), (0xFFFFF, 1)] ∧
    bytes (.write32 0xFFFFD 0 0x01020304) s0 = [] ∧
    bytes (.write32 0xFFFFFFFF 1 0xFFFFFFFF) s0 = [] :=
  ⟨rfl, rfl, rfl, rfl, rfl⟩

/-- V2.6-1, V2.6-2, V2.6-4. -/
theorem test_read32 :
    returned (.read32 0x1000 0x20) stored = .word 0xDEADBEEF ∧
    returned (.read32 0x1020 0) stored = .word 0xDEADBEEF ∧
    returned (.read32 0xFFFFD 0) stored = .word 0 :=
  ⟨rfl, rfl, rfl⟩

/-- V2.6-7, V2.6-8, V2.6-14, P4 steps 6 and 7. -/
theorem test_ramin_write :
    bytes (.raminWr 0x10 4 0x11223344) s0 = [(0xF0010, 0x44), (0xF0011, 0x33), (0xF0012, 0x22), (0xF0013, 0x11)] ∧
    bytes (.raminWr 0xFFFF 1 0x12345678) s0 = [(0xFFFFF, 0x78)] ∧
    bytes (.raminWr 0xFFFD 4 0x12345678) s0 = [] ∧
    bytes (.raminWr 0x10000 1 0xFF) s0 = [] ∧
    bytes (.raminWr 0 2 0xFFFF) s0 = [] :=
  ⟨rfl, rfl, rfl, rfl, rfl⟩

/-- V2.6-9, V2.6-12, V2.6-13, V2.6-15. -/
theorem test_ramin_read :
    returned (.raminRd 0xFFFF 1) stored = .word 0x77 ∧
    returned (.raminRd 0xFFFD 4) stored = .word 0 ∧
    returned (.raminRd 0xFFFF 2) stored = .word 0 ∧
    returned (.raminRd 0x10 1) (after (.raminWr 0x10 4 0x11223344) big) = .word 0x11 ∧
    returned (.raminRd 0x10 1) (after (.raminWr 0x10 4 0x11223344) s0) = .word 0x44 :=
  ⟨rfl, rfl, rfl, rfl, rfl⟩

/-- 44_memory_shim.md R196: a window larger than the region is no configuration. -/
theorem test_sizes_refused :
    cfg.withSizes 3 4 = none ∧
    (cfg.withSizes 4 4).map Config.regionSize = some 4 :=
  ⟨rfl, rfl⟩

/-! ## Reset and notation -/

/-- V2.7-1. -/
theorem test_reset :
    (after .reset latched).dev.reg = RegFile.initial ∧
    (after .reset latched).dev.out = [.irqLevel false] := by decide

/-- V2.7-3, V2.7-5: the memory stays, the bytes per pixel do not. -/
theorem test_reset_memory_and_channels :
    bytes .reset stored = [(0x1020, 0xEF), (0x1021, 0xBE), (0x1022, 0xAD), (0x1023, 0xDE), (0xFFFFF, 0x77)] ∧
    ((after .reset (after (.kelvinSurfaceFormat .d3dcmd 4 0x14 3) s0)).dev.channel 4).d3d.bytesPerPixel = 1 := by
  decide

/-- 30_encoding.md R81, a line of each form, numbers in decimal. -/
theorem test_lines :
    (Transaction.mmioRead 512 4).line = some "rd32 512" ∧
    (Transaction.mmioWrite 320 2 65535).line = some "wr16 320, 65535" ∧
    (Transaction.raminRead 0 2).line = some "ramin.rd 0, 2" ∧
    (Transaction.raminWrite 17 1 427).line = some "ramin.wr8 17, 427" ∧
    (Transaction.cmd 2 1 161 16 11).line = some "cmd 2, 1, 161, 16, 11" ∧
    Transaction.rst.line = some "reset" := by decide

/-! ## Witnesses: the hypotheses of each statement can be met -/

/-- Each clause: an operation that is no entry point, and one that is. -/
theorem witness_DecodeOfEncodeIsTheOperation :
    (Instr.kelvinSurfacePitch (.cmd 7 0xA0) 31 0x15 0x100).wf cfg = true ∧
    encode (.kelvinSurfacePitch (.cmd 7 0xA0) 31 0x15 0x100) = some (.cmd 31 7 0xA0 0x15 0x100) ∧
    (Instr.kelvinSurfacePitch (.cmd 7 0xA0) 31 0x15 0x100).isEntryPoint = false ∧
    (Instr.d3dcmd 31 0x15 0x100).wf cfg = true ∧
    encode (.d3dcmd 31 0x15 0x100) = some (.d3dcmd 31 0x15 0x100) ∧
    (Instr.d3dcmd 31 0x15 0x100).isEntryPoint = true := by decide

theorem witness_EveryRecordHasOneName :
    (Instr.rdUnknown 0xFFFFFC).wf cfg = true ∧ (Instr.rdUnknown 0xFFFFFC).isEntryPoint = false ∧
    encode (.rdUnknown 0xFFFFFC) = some (.mmioRead 0xFFFFFC 4) := by decide

theorem witness_StepRunsTheDecodedOperation :
    (given [.rst]).env = .rst :: [] ∧ s0.env = [] := ⟨rfl, rfl⟩

theorem witness_D3dcmdIsCmdToKelvin :
    (31 : Word).toNat < 32 ∧ (7 : Word).toNat < 8 ∧ s0.cfg.classOf 0xA0 = some .kelvin := ⟨by decide, by decide, rfl⟩

/-- Sizes next to 4, the first address out of range, the last one in range. -/
theorem witness_RejectedAccessesHaveNoEffect :
    (3 : Nat) ≠ 4 ∧ (5 : Nat) ≠ 4 ∧ 0x1000000 ≤ (0x1000000 : Word).toNat ∧
    (0xFFFFFF : Word).toNat < 0x1000000 ∧ regAt 0xFFFFFF = none := ⟨by decide, by decide, by decide, by decide, rfl⟩

/-- No register has the address of the witness above. -/
theorem witness_RejectedAccessesHaveNoEffect_unknown (r : MmioReg) : (0xFFFFFF : Word) ≠ r.addr := by
  cases r with
  | mcIntr => decide
  | stored r => cases r <;> decide

theorem witness_McIntrAcknowledgeIsIdempotent :
    exec (.wrMcIntr 0x101) latched = .next (after (.wrMcIntr 0x101) latched) := rfl

theorem witness_PutStoresThenKicksIfEnabled :
    (withReg .cache1Push1 4).dev.reg.cache1Push1.getLsbD 0 = false ∧
    (withReg .cache1Push1 3).dev.reg.cache1Push1.getLsbD 0 = true := ⟨rfl, rfl⟩

theorem witness_StubKickSetsTheSemaphoreObject :
    s0.cfg.kickFetch = .stub := rfl

/-- The stub's list: a kick runs one command. -/
theorem test_kick_commands : kickCommands cfg s0.dev = [(.semaphoreObject, 0x77)] := rfl

theorem witness_OversizedWindowIsRefused : 3 < 4 ∧ 4 ≤ 4 := by decide

theorem witness_DisplaySeesTheWindowBytes : 0xFFFF < s0.cfg.raminSize := by decide

theorem witness_EvenChannelsAreNeverKicked :
    exec (.wrCache1Put 0x40) (withReg .cache1Push1 31) =
      .next (after (.wrCache1Put 0x40) (withReg .cache1Push1 31)) ∧ (30 : ChanId).val % 2 = 0 := ⟨rfl, rfl⟩

theorem witness_OnlyEventsSetLatchBits :
    (Instr.wrBusIntr 0x4).isEvent = false ∧ exec (.wrBusIntr 0x4) latched = .next (after (.wrBusIntr 0x4) latched) := ⟨rfl, rfl⟩

theorem witness_UpdateIrqRunsExactlyWhereNamed :
    exec (.wrFifoIntrEn 0x2) latched = .next (after (.wrFifoIntrEn 0x2) latched) ∧
    (Instr.wrFifoIntrEn 0x2).drivesLine = true ∧
    exec (.kelvinClearSurface .d3dcmd 0 0x17 0) latched = .next (after (.kelvinClearSurface .d3dcmd 0 0x17 0) latched) ∧
    (Instr.kelvinClearSurface .d3dcmd 0 0x17 0).drivesLine = false := ⟨rfl, rfl, rfl, rfl⟩

/-- The invariants that steps keep hold of a state with a transaction presented, and it takes a step. -/
theorem witness_StepKeeps_line_and_memory :
    (given [.evtBus 0x10]).lineInv ∧ (given [.linWrite 0x1000 0 1]).memInv ∧
    step (given [.evtBus 0x10]) = .next (after (.eventBus 0x10) s0) ∧
    step (given [.linWrite 0x1000 0 1]) = .next (after (.write32 0x1000 0 1) s0) :=
  ⟨rfl, ⟨rfl, rfl⟩, rfl, rfl⟩

theorem witness_StepKeepsBytesPerPixel :
    (given [.d3dcmd 31 0x14 5]).bppInv ∧
    step (given [.d3dcmd 31 0x14 5]) = .next (after (.kelvinSurfaceFormat .d3dcmd 31 0x14 5) s0) :=
  ⟨by unfold State.bppInv; decide, rfl⟩

/-- Both entries of the 3D engine, and a code of each of its methods and of none: the hypotheses of the
statements about 3D rows (KelvinSettersStoreVerbatim, SurfaceFormatDerivesBytesPerPixel,
ClearSurfaceSignalsRedraw, SemaphoreAcquireWritesOneWord, FailingRowsReturnFalse). -/
theorem witness_SetsD3d :
    entersKelvin cfg .d3dcmd = true ∧ entersKelvin cfg (.cmd 7 0xA0) = true ∧
    cfg.d3dMethodOf 0x10 = some .semaphoreObject ∧ cfg.d3dMethodOf 0x11 = some .semaphoreOffset ∧
    cfg.d3dMethodOf 0x12 = some .clipHorizontal ∧ cfg.d3dMethodOf 0x13 = some .clipVertical ∧
    cfg.d3dMethodOf 0x14 = some .surfaceFormat ∧ cfg.d3dMethodOf 0x15 = some .surfacePitch ∧
    cfg.d3dMethodOf 0x16 = some .surfaceColorOffset ∧ cfg.d3dMethodOf 0x17 = some .clearSurface ∧
    cfg.d3dMethodOf 0x18 = some .colorClearValue ∧ cfg.d3dMethodOf 0x19 = some .semaphoreAcquire ∧
    cfg.d3dMethodOf 0x1A = none := by decide

theorem witness_BppOfMapsEveryNibble :
    (0x0 : BitVec 4) ≠ 0x1 ∧ (0x0 : BitVec 4) ≠ 0x3 ∧ (0x0 : BitVec 4) ≠ 0x5 ∧ (0xF : BitVec 4) ≠ 0x5 := by decide

/-- The last address that fits and the first that does not. -/
theorem witness_SemaphoreAcquireWritesOneWord :
    0xFFFFC + 4 ≤ cfg.regionSize ∧ cfg.regionSize < 0xFFFFD + 4 ∧
    ((sem 0xFFFFC 0).dev.channel 0).d3d.semaphoreObj.toNat +
      ((sem 0xFFFFC 0).dev.channel 0).d3d.semaphoreOffset.toNat = 0xFFFFC ∧
    ((sem 0xFFFFD 0).dev.channel 0).d3d.semaphoreObj.toNat +
      ((sem 0xFFFFD 0).dev.channel 0).d3d.semaphoreOffset.toNat = 0xFFFFD := ⟨by decide, by decide, rfl, rfl⟩

theorem witness_SemaphoreRoundTrip :
    (0xFFFF0 : Word).toNat + (0xC : Word).toNat + 4 ≤ s0.cfg.regionSize ∧
    (0xFFFFC : Word).toNat + (0 : Word).toNat = (0xFFFF0 : Word).toNat + (0xC : Word).toNat ∧
    ∀ i ∈ [Instr.eventBus 1, .reset, .rdMcIntr], i.mayStore = false := by decide

/-- A class tag of each engine class and of none, and a code of each 2D-surface method and of none: the
hypotheses of Surf2dSettersStoreVerbatim, AcceptingEnginesChangeNothing and FailingRowsReturnFalse. -/
theorem witness_Surf2dAndOtherClasses :
    cfg.classOf 0xA1 = some .surf2d ∧ cfg.surf2dMethodOf 0x10 = some .format ∧
    cfg.surf2dMethodOf 0x11 = some .pitch ∧ cfg.surf2dMethodOf 0x12 = some .offsetSrc ∧
    cfg.surf2dMethodOf 0x13 = some .offsetDst ∧ cfg.surf2dMethodOf 0x14 = none ∧
    cfg.classOf 0xA2 = some .gdi ∧ cfg.classOf 0xA3 = some .m2mf ∧ cfg.classOf 0xA4 = some .ifc ∧
    cfg.classOf 0xA5 = none := by decide

theorem witness_FailingRowsReturnFalse :
    32 ≤ (32 : Word).toNat ∧ 8 ≤ (8 : Word).toNat := by decide

/-- A rejected command for each cause, and two that are not rejected. -/
theorem witness_DispatchFailsWithoutEffect :
    CmdRejected cfg 32 0 0xA0 0x10 ∧ CmdRejected cfg 31 8 0xA0 0x10 ∧ CmdRejected cfg 31 7 0xA5 0x10 ∧
    CmdRejected cfg 31 7 0xA0 0x1A ∧ CmdRejected cfg 31 7 0xA1 0x14 ∧ ¬ CmdRejected cfg 31 7 0xA0 0x10 ∧
    ¬ CmdRejected cfg 31 7 0xA2 0x1A := by unfold CmdRejected; decide

/-- `s0` with a binding of channel 3 written by hand. -/
def bound : Device :=
  s0.dev.setChannel 3 { s0.dev.channel 3 with bind := (s0.dev.channel 3).bind.set 2 0xA1 }

theorem witness_RoutingIgnoresBindings :
    (0 : Word).toNat < 8 ∧ (7 : Word).toNat < 8 ∧ bound.reg = s0.dev.reg ∧ bound.mem = s0.dev.mem ∧
    bound.irq = s0.dev.irq ∧ bound.out = s0.dev.out ∧ bound ≠ s0.dev ∧
    ∀ c, (bound.channel c).d3d = (s0.dev.channel c).d3d ∧
      (bound.channel c).surf2d = (s0.dev.channel c).surf2d := by decide

theorem witness_OnlyResetWritesBindings :
    (Instr.surf2dFormat 31 7 0xA1 0x10 0xB).isReset = false ∧
    exec (.surf2dFormat 31 7 0xA1 0x10 0xB) s0 = .next (after (.surf2dFormat 31 7 0xA1 0x10 0xB) s0) := ⟨rfl, rfl⟩

theorem witness_ChannelsAreIndependent :
    (Instr.surf2dFormat 31 7 0xA1 0x10 0xB).isReset = false ∧
    exec (.surf2dFormat 31 7 0xA1 0x10 0xB) s0 = .next (after (.surf2dFormat 31 7 0xA1 0x10 0xB) s0) ∧
    (Instr.surf2dFormat 31 7 0xA1 0x10 0xB).targetChannel s0.dev.reg ≠ some 30 := ⟨rfl, rfl, by decide⟩

/-- The hypotheses of Read32ReadsOneWord and Write32WritesOneWord, at the end of the region. -/
theorem witness_Read32AndWrite32 :
    (0xFFFFC : Word).toNat + (0 : Word).toNat + 4 ≤ s0.cfg.regionSize ∧
    s0.cfg.regionSize < (0xFFFFC : Word).toNat + (1 : Word).toNat + 4 := by decide

/-- The hypotheses of RaminReadReadsTheWindow and RaminWriteWritesTheWindow, at the end of the window. -/
theorem witness_RaminReadAndWrite :
    0xFFFF + 1 ≤ s0.cfg.raminSize ∧ 0xFFFC + 4 ≤ s0.cfg.raminSize ∧ s0.cfg.raminSize < 0x10000 + 1 ∧
    s0.cfg.raminSize < 0xFFFD + 4 ∧ (2 : Nat) ≠ 1 ∧ (2 : Nat) ≠ 4 := by decide

theorem witness_WindowAliasesTheTail :
    0xFFFC + 4 ≤ s0.cfg.raminSize ∧
    (0xF0000 : Word).toNat + (0xFFFC : Word).toNat = s0.cfg.regionSize - s0.cfg.raminSize + 0xFFFC ∧
    exec (.raminWr 0xFFFC 4 0xCAFEF00D) s0 = .next (after (.raminWr 0xFFFC 4 0xCAFEF00D) s0) ∧
    exec (.write32 0xF0000 0xFFFC 0xCAFEF00D) s0 = .next (after (.write32 0xF0000 0xFFFC 0xCAFEF00D) s0) := ⟨by decide, by decide, rfl, rfl⟩

theorem witness_ByteViewOfAWord :
    0xFFFC + 4 ≤ s0.cfg.raminSize ∧ s0.cfg.byteOrder = .little ∧ big.cfg.byteOrder = .big ∧
    0xFFFC + 4 ≤ big.cfg.raminSize ∧
    exec (.raminWr 0xFFFC 4 0x11223344) s0 = .next (after (.raminWr 0xFFFC 4 0x11223344) s0) ∧
    exec (.raminWr 0xFFFC 4 0x11223344) big = .next (after (.raminWr 0xFFFC 4 0x11223344) big) := ⟨by decide, rfl, rfl, by decide, rfl, rfl⟩

theorem witness_BoundsSafety :
    0x1000000 ≤ (0x1000000 : Word).toNat ∧ s0.cfg.raminSize ≤ 0x10000 ∧
    (given [.mmioRead 0x1000000 4]).env = [.mmioRead 0x1000000 4] ∧
    (given [.mmioWrite 0x1000000 4 1]).env = [.mmioWrite 0x1000000 4 1] ∧
    (given [.raminRead 0x10000 4]).env = [.raminRead 0x10000 4] ∧
    (given [.raminWrite 0x10000 4 1]).env = [.raminWrite 0x10000 4 1] := ⟨by decide, by decide, rfl, rfl, rfl, rfl⟩

theorem witness_OnlyTheShimWritesMemory :
    exec (.wrMcEnable 0) s0 = .next (after (.wrMcEnable 0) s0) ∧ (Instr.wrMcEnable 0).mayStore = false ∧
    exec (.wrCache1Put 0) (withReg .cache1Push1 1) = .next (after (.wrCache1Put 0) (withReg .cache1Push1 1)) ∧
    (Instr.wrCache1Put 0).mayKick = true ∧ (withReg .cache1Push1 1).cfg.kickFetch = .stub := ⟨rfl, rfl, rfl, rfl, rfl⟩

theorem witness_MemoryInfluencesNothingElse :
    s0.cfg.kickFetch = .stub ∧ exec (.d3dcmd 0 0x19 1) s0 = .next (after (.d3dcmd 0 0x19 1) s0) ∧
    (Instr.d3dcmd 0 0x19 1).isRead = false := ⟨rfl, rfl, rfl⟩

theorem witness_ReadsHaveNoSideEffect :
    (Instr.raminRd 0xFFFF 1).isRead = true := rfl

/-- An error that fails, and the one that succeeds. -/
theorem witness_ErrorsChangeNothing :
    (Instr.cmd 32 8 0xA5 0x1A 0).mayKick = false ∧ diag s0.cfg s0.dev (.cmd 32 8 0xA5 0x1A 0) = [.badChannel] ∧
    (Instr.kelvinSemaphoreAcquire .d3dcmd 0 0x19 1).mayKick = false ∧
    diag cfg (sem 0xFFFFD 0).dev (.kelvinSemaphoreAcquire .d3dcmd 0 0x19 1) = [.boundsLinear] := ⟨rfl, rfl, rfl, rfl⟩

theorem witness_ResetIsIdempotent :
    exec .reset latched = .next (after .reset latched) := rfl

end Sys2Proof.Tests
end

section
/-! The two equations of `step`, one for each form of the environment's list (log entry 2), and the
obligation about steps that they settle. -/

namespace Sys2Proof.Machine

/-- A presented transaction is taken from the list, decoded under the parameters and run (00_scope.md R6). -/
theorem step_of_env_cons {s : State} {t : Transaction} {rest : List Transaction}
    (h : s.env = t :: rest) : step s = exec (decode s.cfg t) { s with env := rest } := by
  simp only [step, h]

/-- The block does nothing on its own (00_scope.md R6). -/
theorem step_of_env_nil {s : State} (h : s.env = []) : step s = .next s := by
  simp only [step, h]

/-- Settles O5, by the two equations of `step`. -/
theorem stepRunsTheDecodedOperation : Obligations.StepRunsTheDecodedOperation :=
  ⟨fun _ _ _ => step_of_env_cons, fun _ => step_of_env_nil⟩

end Sys2Proof.Machine
end

section
/-! Statements of 10_state.md: latch bits (R31), the channel table (R33), the bytes per pixel
(R35) and the launch state (R37, R42, R43). -/

namespace Sys2Proof.Machine

/-! ## The inputs of the aggregator -/

/-- An operation that does not drive the line leaves every input of the aggregator
(41_interrupt_aggregator.md R143). -/
theorem exec_keeps_aggregatorInputs {i : Instr} {s t : State} (hi : i.drivesLine = false)
    (h : exec i s = .next t) {r : Reg} (hr : r ∈ aggregatorInputs) :
    t.dev.reg.get r = s.dev.reg.get r := by
  have hno : i.drivesLine ≠ true := by simp [hi]
  obtain ⟨hc, -, -⟩ := exec_change h
  generalize t.dev = d at hc ⊢
  cases hc with
  | same => rfl
  | plain q v hq => exact RegFile.get_set_ne _ v fun he => hq (he ▸ hr)
  | driven q v _ hd => exact absurd hd hno
  | acked b c hd => exact absurd hd hno
  | reset he => subst he; exact absurd rfl hno
  | putKick v =>
    have hput : .cache1Put ∉ aggregatorInputs := by decide
    rw [Device.kick_reg]
    exact RegFile.get_set_ne _ v fun he => hput (he ▸ hr)
  | method => rw [runD3d_reg]
  | surf2d => rfl
  | linear => rw [Device.write32_reg]
  | window => rw [Device.raminWrite_reg]
  | kick => rw [Device.kick_reg]

/-! ## The latches -/

/-- The two latches (10_state.md R14, R16). -/
def latches : List Reg := [.busIntr, .fifoIntr]

theorem latches_subset_aggregatorInputs : ∀ r ∈ latches, r ∈ aggregatorInputs := by decide

/-- Both latches are 0 after reset (10_state.md R42). -/
theorem get_initial_of_latch : ∀ r ∈ latches, RegFile.initial.get r = 0 := by decide

/-- From `f` to `g` the latch bits of register `r` are kept or cleared, none is set (10_state.md R31). -/
def SetsNoBit (f g : RegFile) (r : Reg) : Prop := g.get r &&& ~~~f.get r = 0

theorem SetsNoBit.of_get_eq {f g : RegFile} {r : Reg} (h : g.get r = f.get r) : SetsNoBit f g r := by
  simp [SetsNoBit, h]

theorem SetsNoBit.of_get_eq_zero {f g : RegFile} {r : Reg} (h : g.get r = 0) : SetsNoBit f g r := by
  simp [SetsNoBit, h]

/-- The write of one register sets no bit of another. -/
theorem setsNoBit_set_ne (f : RegFile) {r q : Reg} (v : Word) (h : q ≠ r) : SetsNoBit f (f.set v r) q :=
  .of_get_eq (f.get_set_ne v h)

/-- Clearing the bits of a latch sets none of any register (10_state.md R14, R16). -/
theorem setsNoBit_clearLatch (d : Device) (r q : Reg) (v : Word) :
    SetsNoBit d.reg (d.clearLatch r v).reg q := by
  by_cases h : q = r
  · subst h
    ext k hk
    simp +contextual
  · exact setsNoBit_set_ne d.reg _ h

/-- The two acknowledges of `MC_INTR` set no bit of any register (40_register_frontend.md R101). -/
theorem setsNoBit_ackLatch_ackLatch (d : Device) (r r' q : Reg) (b b' : Bool) :
    SetsNoBit d.reg ((d.ackLatch r b).ackLatch r' b').reg q := by
  have hq : ((d.ackLatch r b).ackLatch r' b').reg.get q = 0 ∨
      ((d.ackLatch r b).ackLatch r' b').reg.get q = d.reg.get q := by
    rw [Device.ackLatch_get, Device.ackLatch_get]
    split
    · exact .inl rfl
    · split
      · exact .inl rfl
      · exact .inr rfl
  exact hq.elim .of_get_eq_zero .of_get_eq

/-- An operation other than an event sets no bit of a latch (10_state.md R31). Only the operations that
drive the line can touch a latch: of these the latch writes and the acknowledge clear bits, the enables are
other registers, and reset leaves both latches 0. -/
theorem exec_setsNoBit_of_latch {i : Instr} {s t : State} (hi : i.isEvent = false)
    (h : exec i s = .next t) {r : Reg} (hr : r ∈ latches) :
    SetsNoBit s.dev.reg t.dev.reg r := by
  have enable : ∀ (q : Reg) (v : Word), q ∉ latches → SetsNoBit s.dev.reg (s.dev.reg.set v q) r :=
    fun q v hq => setsNoBit_set_ne _ v fun he => hq (he ▸ hr)
  cases i
  case eventBus => cases hi
  case eventFifo => cases hi
  case wrMcIntr data => cases h; exact setsNoBit_ackLatch_ackLatch s.dev _ _ r _ _
  case wrBusIntr data => cases h; exact setsNoBit_clearLatch s.dev _ r data
  case wrFifoIntr data => cases h; exact setsNoBit_clearLatch s.dev _ r data
  case wrMcIntrEn data => cases h; exact enable _ data (by decide)
  case wrBusIntrEn data => cases h; exact enable _ data (by decide)
  case wrFifoIntrEn data => cases h; exact enable _ data (by decide)
  case reset => cases h; exact .of_get_eq_zero (get_initial_of_latch r hr)
  all_goals
    exact .of_get_eq (exec_keeps_aggregatorInputs rfl h (latches_subset_aggregatorInputs r hr))

/-- Settles O24, by the latch law for each of the two latches. -/
theorem onlyEventsSetLatchBits : Obligations.OnlyEventsSetLatchBits := fun _ _ _ hi h =>
  ⟨exec_setsNoBit_of_latch hi h (.head _), exec_setsNoBit_of_latch hi h (.tail _ (.head _))⟩

/-! ## The channel table -/

/-- A kick touches no channel but the one its id names (10_state.md R33, 42_command_dispatcher.md R164). -/
theorem Device.kick_channel_ne (cfg : Config) (d : Device) {c : ChanId}
    (hc : chanOf (kickChid d.reg) ≠ some c) : (d.kick cfg).channel c = d.channel c :=
  Device.kick_induct (P := fun e => e.channel c = d.channel c) cfg d rfl fun b hb m p e he => by
    have hne : c ≠ b := fun hcb => hc (hcb ▸ hb)
    rw [runD3d_channel_ne cfg m p e hne, he]

/-- With the push-enable bit set, the write of `CACHE1_PUT` acts on the channel that the kick takes from the
registers after the store (10_state.md R22, R33). -/
theorem targetChannel_wrCache1Put {f : RegFile} (v : Word) (hp : pushEnabled f = true) :
    (Instr.wrCache1Put v).targetChannel f = chanOf (kickChid (f.set v .cache1Put)) := by
  simp only [Instr.targetChannel, hp, if_true]
  rfl

/-- Settles O41, by the changes that an operation can make. -/
theorem channelsAreIndependent : Obligations.ChannelsAreIndependent := by
  intro i s t c hi h hc
  have hne : ∀ {b : ChanId}, i.targetChannel s.dev.reg = some b → c ≠ b := fun hb hcb =>
    hc (hcb ▸ hb)
  obtain ⟨hd, -, -⟩ := exec_change h
  generalize t.dev = d at hd ⊢
  cases hd with
  | same | plain | driven => rfl
  | acked => simp
  | method m b p hb => exact runD3d_channel_ne _ m p _ (hne hb)
  | surf2d b x hb => exact Device.channel_setSurf2d_ne _ x (hne hb)
  | linear | window => simp
  | putKick v hv hp =>
    subst hv
    rw [targetChannel_wrCache1Put v hp] at hc
    exact Device.kick_channel_ne s.cfg (s.dev.writeReg .cache1Put v) hc
  | kick hk => subst hk; exact Device.kick_channel_ne _ _ hc
  | reset hr => subst hr; cases hi

/-! ## The bytes per pixel -/

/-- `BppOf` has the values 1, 2 and 4 alone (43_d3d_methods.md R176). -/
theorem bppOf_mem (n : BitVec 4) : bppOf n ∈ [(1 : Word), 2, 4] := by
  unfold bppOf
  split_ifs <;> simp

/-- The invariant of the bytes per pixel, of a device (10_state.md R35). -/
def Device.bppInv (d : Device) : Prop :=
  ∀ c : ChanId, (d.channel c).d3d.bytesPerPixel ∈ [(1 : Word), 2, 4]

theorem State.bppInv_iff (s : State) : s.bppInv ↔ s.dev.bppInv := Iff.rfl

/-- The invariant depends on the channel table alone. -/
theorem Device.bppInv.congr {d e : Device} (h : d.bppInv) (he : e.chan = d.chan) : e.bppInv :=
  fun c => Device.channel_congr he c ▸ h c

theorem Device.bppInv.setD3d {d : Device} (h : d.bppInv) (c : ChanId) {x : D3DState}
    (hx : x.bytesPerPixel ∈ [(1 : Word), 2, 4]) : (d.setD3d c x).bppInv := by
  intro e
  by_cases he : e = c
  · subst he; rwa [Device.channel_setD3d_same]
  · rw [Device.channel_setD3d_ne d x he]; exact h e

theorem Device.bppInv.setSurf2d {d : Device} (h : d.bppInv) (c : ChanId) (x : Surf2DState) :
    (d.setSurf2d c x).bppInv := by
  intro e
  by_cases he : e = c
  · subst he; rw [Device.channel_setSurf2d_same]; exact h e
  · rw [Device.channel_setSurf2d_ne d x he]; exact h e

/-- Every 3D method keeps the invariant: `SURFACE_FORMAT` stores a value of `BppOf`, the others leave the
bytes per pixel (43_d3d_methods.md R175). -/
theorem Device.bppInv.runD3d {d : Device} (h : d.bppInv) (cfg : Config) (m : D3DMethod) (c : ChanId)
    (p : Word) : (runD3d cfg m c p d).bppInv := by
  cases m with
  | surfaceFormat => exact h.setD3d c (bppOf_mem _)
  | semaphoreAcquire => exact h.congr (Device.write32_chan ..)
  | clearSurface => exact (h.setD3d c (x := { (d.channel c).d3d with clearSurface := p }) (h c)).congr rfl
  | semaphoreObject | semaphoreOffset | clipHorizontal | clipVertical | surfacePitch
  | surfaceColorOffset | colorClearValue => exact h.setD3d c (h c)

theorem Device.bppInv.kick {d : Device} (h : d.bppInv) (cfg : Config) : (d.kick cfg).bppInv :=
  Device.kick_induct cfg d h fun c _ m p _ he => he.runD3d cfg m c p

/-- Every channel has 1 byte per pixel after reset (10_state.md R37). -/
theorem Device.bppInv_resetAll (d : Device) : d.resetAll.bppInv := by
  intro c
  rw [Device.channel_replicate d.resetAll_chan c]
  exact .head _

/-- Every operation keeps the invariant of the bytes per pixel (10_state.md R35). -/
theorem exec_keeps_bppInv {i : Instr} {s t : State} (hs : s.bppInv) (h : exec i s = .next t) :
    t.bppInv := by
  rw [State.bppInv_iff] at hs ⊢
  obtain ⟨hd, -, -⟩ := exec_change h
  generalize t.dev = d at hd ⊢
  cases hd with
  | same => exact hs
  | plain | driven => exact hs.congr rfl
  | acked => exact hs.congr (by simp)
  | method m c p => exact hs.runD3d s.cfg m c p
  | surf2d c x => exact hs.setSurf2d c x
  | linear => exact hs.congr (Device.write32_chan ..)
  | window => exact hs.congr (Device.raminWrite_chan ..)
  | putKick v => exact (hs.congr (Device.writeReg_chan _ .cache1Put v)).kick s.cfg
  | kick => exact hs.kick s.cfg
  | reset => exact s.dev.bppInv_resetAll

/-- Settles O42: a step runs one operation or none. -/
theorem stepKeepsBytesPerPixel : Obligations.StepKeepsBytesPerPixel := by
  intro s t hs h
  cases he : s.env with
  | nil =>
    rw [step_of_env_nil he] at h
    cases h
    exact hs
  | cons x rest =>
    rw [step_of_env_cons he] at h
    exact exec_keeps_bppInv (s := { s with env := rest }) hs h

/-! ## The launch state -/

/-- The registers after reset (10_state.md R42). -/
theorem RegFile.get_initial (r : Reg) :
    RegFile.initial.get r = if r = .mcEnable ∨ r = .fifoMode then 1 else 0 := by
  cases r <;> rfl

/-- Every channel of the launch state is as at reset (10_state.md R37). -/
theorem State.reset_channel (c : ChanId) : State.reset.dev.channel c = Channel.initial :=
  Device.channel_replicate State.reset_chan c

/-- No class is bound after reset (10_state.md R37). -/
theorem Channel.bind_initial (k : SubId) : Channel.initial.bind.get k = 0 := by
  simp [Channel.initial, Vector.get_eq_getElem]

/-- Settles O59, by the reset values of the registers and of a channel. -/
theorem launchStateIsTheResetState : Obligations.LaunchStateIsTheResetState := by
  refine ⟨RegFile.get_initial, fun c => ?_, rfl, rfl, rfl, rfl, rfl, rfl, rfl, rfl⟩
  rw [State.reset_channel]
  exact ⟨Channel.bind_initial, rfl, rfl⟩

end Sys2Proof.Machine
end

section
/-! Statements of 20_memory.md: the byte view (R51), reads (R55), the window (R58), the semaphore round trip
(R62), the display path (R63) and what the memory influences (R64). -/

namespace Sys2Proof.Machine

/-! ## The reads of the shim -/

/-- A linear read is 0, or reads its four bytes (44_memory_shim.md R191). -/
theorem Device.read32_eq (d : Device) (c : Config) (o f : Word) :
    d.read32 c o f =
      if linAddress o f + 4 ≤ c.regionSize then d.mem.readBytes c.byteOrder (linAddress o f) 4 else 0 := by
  simp only [Device.read32, linAllowed, decide_eq_true_eq]

/-- A window read is 0, or reads its bytes at the tail of the region (44_memory_shim.md R193). -/
theorem Device.raminRead_eq (d : Device) (c : Config) (a n : Nat) :
    d.raminRead c a n =
      if (n = 1 ∨ n = 4) ∧ a + n ≤ c.raminSize then
        d.mem.readBytes c.byteOrder (c.regionSize - c.raminSize + a) n
      else 0 := by
  by_cases hn : n = 1 ∨ n = 4 <;> by_cases ha : a + n ≤ c.raminSize <;>
    simp [Device.raminRead, raminSizeOk, raminAddr, hn, ha]

/-- A 1-byte read inside the window is the byte, zero-extended (44_memory_shim.md R193). -/
theorem Device.raminRead_one (d : Device) (c : Config) {a : Nat} (ha : a + 1 ≤ c.raminSize) :
    d.raminRead c a 1 = (d.mem.read (c.regionSize - c.raminSize + a)).setWidth 32 := by
  rw [Device.raminRead_eq, if_pos ⟨.inl rfl, ha⟩, Memory.readBytes_one]

/-- A 4-byte read returns the value that the memory stored last at its address, however object and offset
split that address (20_memory.md R60). -/
theorem Device.read32_of_mem_eq_writeBytes {d : Device} {c : Config} {o f v : Word} {m : Memory} {a : Nat}
    (hmem : d.mem = m.writeBytes c.byteOrder a 4 v) (ha : linAddress o f = a)
    (hfit : a + 4 ≤ c.regionSize) : d.read32 c o f = v := by
  subst ha
  rw [Device.read32_eq, if_pos hfit, hmem]
  exact Memory.readBytes_writeBytes ..

/-- What the window stores, the region's tail reads (20_memory.md R58). -/
theorem Device.read32_raminWrite (d : Device) {c : Config} {a : Nat} {o f : Word} (v : Word)
    (ha : a + 4 ≤ c.raminSize) (hof : linAddress o f = c.regionSize - c.raminSize + a) :
    (d.raminWrite c a 4 v).read32 c o f = v := by
  refine Device.read32_of_mem_eq_writeBytes (m := d.mem) ?_ hof (window_end c ha)
  rw [Device.raminWrite_mem, if_pos ⟨.inr rfl, ha⟩]

/-- What the region's tail stores, the window reads (20_memory.md R58). -/
theorem Device.raminRead_write32 (d : Device) {c : Config} {a : Nat} {o f : Word} (v : Word)
    (ha : a + 4 ≤ c.raminSize) (hof : linAddress o f = c.regionSize - c.raminSize + a) :
    (d.write32 c o f v).raminRead c a 4 = v := by
  have hfit : linAddress o f + 4 ≤ c.regionSize := hof ▸ window_end c ha
  rw [Device.raminRead_eq, if_pos ⟨.inr rfl, ha⟩, Device.write32_mem, if_pos hfit, hof,
    Memory.readBytes_writeBytes]

/-- The first byte of a 4-byte window write, read back alone (20_memory.md R51). -/
theorem Device.raminRead_one_raminWrite_four (d : Device) {c : Config} {a : Nat} (v : Word)
    (ha : a + 4 ≤ c.raminSize) :
    (d.raminWrite c a 4 v).raminRead c a 1 = (byteOf v (bytePos c.byteOrder 4 0)).setWidth 32 := by
  rw [Device.raminRead_one _ c (by omega), Device.raminWrite_mem, if_pos ⟨.inr rfl, ha⟩,
    Memory.read_writeBytes, if_pos (by omega), Nat.sub_self]

/-- The low byte of a value. -/
theorem byteOf_zero_toNat (v : Word) : (byteOf v 0).toNat = v.toNat % 256 := by
  simp [byteOf, BitVec.extractLsb'_toNat]

/-- The high byte of a value. -/
theorem byteOf_three_toNat (v : Word) : (byteOf v 3).toNat = v.toNat / 16777216 := by
  have hv := v.isLt
  simp only [byteOf, BitVec.extractLsb'_toNat, Nat.shiftRight_eq_div_pow]
  omega

/-- The display path sees every byte of the region (20_memory.md R63). -/
theorem Device.displayRead_of_lt (d : Device) {c : Config} {a : Nat} (ha : a < c.regionSize) :
    d.displayRead c a = some (d.mem.read a) := if_pos ha

/-- Settles O54: a byte below the end of the window lies in the region. -/
theorem displaySeesTheWindowBytes : Obligations.DisplaySeesTheWindowBytes := by
  intro s a ha
  refine ⟨_, s.dev.displayRead_of_lt (window_end s.cfg (n := 1) ha), ?_⟩
  rw [← Device.raminRead_one s.dev s.cfg ha]
  rfl

/-- Settles O47, by the two laws of the window as the region's tail. -/
theorem windowAliasesTheTail : Obligations.WindowAliasesTheTail := by
  intro s t a o f v ha hof
  constructor
  · intro h
    cases h
    exact ⟨_, rfl, congrArg Ret.word (s.dev.read32_raminWrite v ha hof)⟩
  · intro h
    cases h
    exact ⟨_, rfl, congrArg Ret.word (s.dev.raminRead_write32 v ha hof)⟩

/-- Settles O48, by the byte that each order places first. -/
theorem byteViewOfAWord : Obligations.ByteViewOfAWord := by
  intro s t a v ha h
  cases h
  refine ⟨_, _, rfl, congrArg Ret.word (s.dev.raminRead_one_raminWrite_four v ha), ?_, ?_⟩
  · intro ho
    rw [ho, BitVec.toNat_setWidth_of_le (by decide)]
    exact byteOf_zero_toNat v
  · intro ho
    rw [ho, BitVec.toNat_setWidth_of_le (by decide)]
    exact byteOf_three_toNat v

/-! ## Reads -/

/-- Settles O55: each read of a register, of the window or of the region answers with the device
untouched, and no other operation is a read. -/
theorem readsHaveNoSideEffect : Obligations.ReadsHaveNoSideEffect := by
  intro i s hi
  cases i with
  | rdMcIntr | rdMcIntrEn | rdMcEnable | rdBusIntr | rdBusIntrEn | rdFifoIntr | rdFifoIntrEn | rdFifoRamht
  | rdFifoRamfc | rdFifoRamro | rdFifoMode | rdCache1Push1 | rdCache1Put | rdCache1DmaPush
  | rdCache1DmaInstance | rdCache1DmaPut | rdCache1DmaGet | rdCache1RefCnt | rdCache1Pull
  | rdCache1Semaphore | rdBadsize | rdOor | rdUnknown | raminRd | read32 => exact ⟨_, rfl⟩
  | _ => cases hi

/-! ## Operations that do not store -/

/-- Every operation runs to completion (60_exceptions.md R210). -/
theorem exec_completes (i : Instr) (s : State) : ∃ t, exec i s = .next t := by
  cases i <;> exact ⟨_, rfl⟩

/-- A 3D method other than the semaphore write leaves the memory (43_d3d_methods.md R170). -/
theorem runD3d_mem (cfg : Config) {m : D3DMethod} (c : ChanId) (p : Word) (d : Device)
    (hm : m ≠ .semaphoreAcquire) : (runD3d cfg m c p d).mem = d.mem := by
  obtain ⟨-, -, x, h⟩ | ⟨-, x, h⟩ | ⟨ha, -⟩ := runD3d_cases cfg m c p d
  · simp [h]
  · simp [h]
  · exact absurd ha hm

/-- An operation that cannot reach the shim's writes leaves the memory (10_state.md R39). -/
theorem exec_mem_of_not_mayStore {i : Instr} {s t : State} (hi : i.mayStore = false)
    (h : exec i s = .next t) : t.dev.mem = s.dev.mem := by
  have hno : i.mayStore ≠ true := by simp [hi]
  obtain ⟨hd, -, -⟩ := exec_change h
  generalize t.dev = d at hd ⊢
  cases hd with
  | same | plain | driven | surf2d | reset => rfl
  | acked => simp
  | method m c p _ hm => exact runD3d_mem s.cfg c p s.dev fun ha => hno (hm ha)
  | linear _ _ _ hs => exact absurd hs hno
  | window _ _ _ hs => exact absurd hs hno
  | putKick _ he => subst he; exact absurd rfl hno
  | kick he => subst he; exact absurd rfl hno

/-! ## Lists of operations -/

/-- An operation that completes hands its state to the rest of the list. -/
theorem runOps_cons {i : Instr} {s t : State} (is : List Instr) (h : exec i s = .next t) :
    runOps (i :: is) s = runOps is t := by
  simp only [runOps, h]

/-- Operations that cannot reach the shim's writes complete one after another and leave the memory and the
parameters. -/
theorem runOps_append_of_not_mayStore (rest : List Instr) {quiet : List Instr}
    (hq : ∀ i ∈ quiet, i.mayStore = false) (s : State) :
    ∃ t, runOps (quiet ++ rest) s = runOps rest t ∧ t.dev.mem = s.dev.mem ∧ t.cfg = s.cfg := by
  induction quiet generalizing s with
  | nil => exact ⟨s, rfl, rfl, rfl⟩
  | cons i is ih =>
    obtain ⟨hi, his⟩ := List.forall_mem_cons.mp hq
    obtain ⟨u, hu⟩ := exec_completes i s
    obtain ⟨t, hrun, hmem, hcfg⟩ := ih his u
    obtain ⟨-, hucfg, -⟩ := exec_change hu
    exact ⟨t, (runOps_cons _ hu).trans hrun, hmem.trans (exec_mem_of_not_mayStore hi hu),
      hcfg.trans hucfg⟩

/-! ## The semaphore -/

/-- The device after object, offset and acquire (43_d3d_methods.md R171, R172, R181). -/
def Device.semaphoreSequence (d : Device) (cfg : Config) (c : ChanId) (O F V : Word) : Device :=
  ((d.semaphoreObject c O).semaphoreOffset c F).semaphoreAcquire cfg c V

/-- An acquire after object and offset stores its parameter at their sum (43_d3d_methods.md R181). -/
theorem Device.semaphoreSequence_mem (d : Device) (cfg : Config) (c : ChanId) (O F V : Word)
    (hfit : O.toNat + F.toNat + 4 ≤ cfg.regionSize) :
    (d.semaphoreSequence cfg c O F V).mem = d.mem.writeBytes cfg.byteOrder (O.toNat + F.toNat) 4 V := by
  simp [Device.semaphoreSequence, Device.semaphoreAcquire, Device.semaphoreOffset, Device.semaphoreObject,
    Device.write32_mem, linAddress, hfit]

/-- The three methods, run one after another, leave that device. -/
theorem runOps_semaphoreSequence (v1 v2 v3 : Entry) (c : ChanId) (m1 m2 m3 O F V : Word)
    (rest : List Instr) (s : State) :
    runOps ([.kelvinSemaphoreObject v1 c m1 O, .kelvinSemaphoreOffset v2 c m2 F,
        .kelvinSemaphoreAcquire v3 c m3 V] ++ rest) s =
      runOps rest { s with dev := s.dev.semaphoreSequence s.cfg c O F V, ret := .success true } := rfl

/-- Settles O34: the acquire stores the value at the sum, the quiet operations keep the memory and the
parameters, and the read finds it there. -/
theorem semaphoreRoundTrip : Obligations.SemaphoreRoundTrip := by
  intro s c v1 v2 v3 m1 m2 m3 O F V o f quiet hfit hsum hquiet
  rw [List.append_assoc, runOps_semaphoreSequence]
  obtain ⟨t, hrun, hmem, hcfg⟩ := runOps_append_of_not_mayStore [.read32 o f] hquiet
    { s with dev := s.dev.semaphoreSequence s.cfg c O F V, ret := .success true }
  rw [hrun, runOps_cons (t := { t with ret := .word (t.dev.read32 t.cfg o f) }) [] rfl]
  refine ⟨_, rfl, congrArg Ret.word ?_⟩
  rw [hcfg]
  exact Device.read32_of_mem_eq_writeBytes (hmem.trans (s.dev.semaphoreSequence_mem s.cfg c O F V hfit))
    hsum hfit

/-! ## What the memory influences -/

/-- The device with another memory. -/
def Device.withMem (d : Device) (m : Memory) : Device := { d with mem := m }

@[simp] theorem Device.withMem_reg (d : Device) (m : Memory) : (d.withMem m).reg = d.reg := rfl
@[simp] theorem Device.withMem_chan (d : Device) (m : Memory) : (d.withMem m).chan = d.chan := rfl
@[simp] theorem Device.withMem_irq (d : Device) (m : Memory) : (d.withMem m).irq = d.irq := rfl
@[simp] theorem Device.withMem_out (d : Device) (m : Memory) : (d.withMem m).out = d.out := rfl

/-- The state with another memory. -/
def State.withMem (s : State) (m : Memory) : State := { s with dev := s.dev.withMem m }

/-- Two devices that agree on registers, channels and outputs differ in the memory alone. -/
theorem Device.eq_withMem {d e : Device} (hreg : e.reg = d.reg) (hchan : e.chan = d.chan)
    (hirq : e.irq = d.irq) (hout : e.out = d.out) : e = d.withMem e.mem := by
  cases e
  simp only [Device.withMem, Device.mk.injEq]
  exact ⟨hreg, hchan, trivial, hirq, hout⟩

/-- Where a linear write stores, and whether it does, influences the memory alone. -/
theorem Device.write32_withMem (d : Device) (m : Memory) (c : Config) (o f v : Word) :
    ∃ m', (d.withMem m).write32 c o f v = (d.write32 c o f v).withMem m' :=
  ⟨_, Device.eq_withMem (by simp) (by simp) (by simp) (by simp)⟩

/-- Where a window write stores, and whether it does, influences the memory alone. -/
theorem Device.raminWrite_withMem (d : Device) (m : Memory) (c : Config) (a n : Nat) (v : Word) :
    ∃ m', (d.withMem m).raminWrite c a n v = (d.raminWrite c a n v).withMem m' :=
  ⟨_, Device.eq_withMem (by simp) (by simp) (by simp) (by simp)⟩

/-- A latch acknowledge takes nothing from the memory (40_register_frontend.md R101). -/
theorem Device.ackLatch_withMem (d : Device) (m : Memory) (r : Reg) (b : Bool) :
    (d.withMem m).ackLatch r b = (d.ackLatch r b).withMem m := by
  cases b <;> rfl

/-- What a 3D method leaves beside the memory does not depend on the memory it found. -/
theorem runD3d_withMem (cfg : Config) (k : D3DMethod) (c : ChanId) (p : Word) (d : Device) (m : Memory) :
    ∃ m', runD3d cfg k c p (d.withMem m) = (runD3d cfg k c p d).withMem m' := by
  cases k with
  | semaphoreAcquire => exact Device.write32_withMem d m cfg _ _ p
  | semaphoreObject | semaphoreOffset | clipHorizontal | clipVertical | surfaceFormat | surfacePitch
  | surfaceColorOffset | clearSurface | colorClearValue => exact ⟨m, rfl⟩

/-- The fixed pair of the stub does not depend on the memory (42_command_dispatcher.md R163). -/
theorem Device.kick_withMem {cfg : Config} (hk : cfg.kickFetch = .stub) (d : Device) (m : Memory) :
    (d.withMem m).kick cfg = (d.kick cfg).withMem m := by
  obtain ⟨c, hc, -⟩ := chanOf_kickChid d.reg
  rw [Device.kick_stub cfg d hk hc, Device.kick_stub cfg (d.withMem m) hk hc]
  rfl

/-- The write of `CACHE1_PUT`, with the kick or without (40_register_frontend.md R125). -/
theorem Device.putKick_withMem {cfg : Config} (hk : cfg.kickFetch = .stub) (v : Word) (d : Device)
    (m : Memory) :
    (if pushEnabled ((d.withMem m).writeReg .cache1Put v).reg then
        ((d.withMem m).writeReg .cache1Put v).kick cfg else (d.withMem m).writeReg .cache1Put v) =
      (if pushEnabled (d.writeReg .cache1Put v).reg then (d.writeReg .cache1Put v).kick cfg
        else d.writeReg .cache1Put v).withMem m := by
  have hw : (d.withMem m).writeReg .cache1Put v = (d.writeReg .cache1Put v).withMem m := rfl
  rw [hw, Device.kick_withMem hk, apply_ite (Device.withMem · m)]
  rfl

/-- The 3D method table takes nothing from the memory (43_d3d_methods.md R170, R182). -/
theorem execD3dMethod_withMem (cfg : Config) (c : ChanId) (code p : Word) (d : Device) (m : Memory) :
    ∃ m', execD3dMethod cfg c code p (d.withMem m) =
      ((execD3dMethod cfg c code p d).1.withMem m', (execD3dMethod cfg c code p d).2) := by
  unfold execD3dMethod
  cases cfg.d3dMethodOf code with
  | none => exact ⟨m, rfl⟩
  | some k =>
    obtain ⟨m', hm'⟩ := runD3d_withMem cfg k c p d m
    exact ⟨m', congrArg (·, true) hm'⟩

/-- The 2D-surface engine leaves the memory it found (42_command_dispatcher.md R154 to R158). -/
theorem execSurf2d_withMem (cfg : Config) (c : ChanId) (code p : Word) (d : Device) (m : Memory) :
    execSurf2d cfg c code p (d.withMem m) =
      ((execSurf2d cfg c code p d).1.withMem m, (execSurf2d cfg c code p d).2) := by
  unfold execSurf2d
  cases cfg.surf2dMethodOf code with
  | none => rfl
  | some k => cases k <;> rfl

/-- Which engine a command reaches, what it leaves beside the memory and its success do not depend on the
memory it found (42_command_dispatcher.md R150). -/
theorem execEngine_withMem (cfg : Config) (chid subc cls code p : Word) (d : Device) (m : Memory) :
    ∃ m', execEngine cfg chid subc cls code p (d.withMem m) =
      ((execEngine cfg chid subc cls code p d).1.withMem m', (execEngine cfg chid subc cls code p d).2) := by
  unfold execEngine
  cases chanOf chid with
  | none => exact ⟨m, rfl⟩
  | some c =>
    cases subOf subc with
    | none => exact ⟨m, rfl⟩
    | some u =>
      cases cfg.classOf cls with
      | none => exact ⟨m, rfl⟩
      | some k =>
        cases k with
        | kelvin => exact execD3dMethod_withMem cfg c code p d m
        | surf2d => exact ⟨m, execSurf2d_withMem cfg c code p d m⟩
        | gdi | m2mf | ifc => exact ⟨m, rfl⟩

/-- `D3DCMD` takes nothing from the memory (42_command_dispatcher.md R166). -/
theorem execD3d_withMem (cfg : Config) (chid code p : Word) (d : Device) (m : Memory) :
    ∃ m', execD3d cfg chid code p (d.withMem m) =
      ((execD3d cfg chid code p d).1.withMem m', (execD3d cfg chid code p d).2) := by
  unfold execD3d
  cases chanOf chid with
  | none => exact ⟨m, rfl⟩
  | some c => exact execD3dMethod_withMem cfg c code p d m

/-- With the stub, an operation that does not read leaves, from another memory, the same state but for the
memory (20_memory.md R64). -/
theorem exec_withMem {i : Instr} {s t : State} (m : Memory) (hk : s.cfg.kickFetch = .stub)
    (hi : i.isRead = false) (h : exec i s = .next t) :
    ∃ m', exec i (s.withMem m) = .next (t.withMem m') := by
  have finished : ∀ {d e : Device} {r : Ret}, s.finish d r = .next t → (∃ m', e = d.withMem m') →
      ∃ m', (s.withMem m).finish e r = .next (t.withMem m') := by
    rintro d e r hd ⟨m', rfl⟩
    cases hd
    exact ⟨m', rfl⟩
  have dispatched : ∀ {r q : Device × Bool}, s.dispatched r = .next t →
      (∃ m', q = (r.1.withMem m', r.2)) → ∃ m', (s.withMem m).dispatched q = .next (t.withMem m') := by
    rintro r q hr ⟨m', rfl⟩
    exact finished hr ⟨m', rfl⟩
  cases i with
  | read32 | raminRd => cases hi
  | write32 o f v => exact finished h (s.dev.write32_withMem m s.cfg o f v)
  | raminWr a n v => exact finished h (s.dev.raminWrite_withMem m s.cfg a n v)
  | kelvinSemaphoreAcquire via c code p =>
    exact finished h (runD3d_withMem s.cfg .semaphoreAcquire c p s.dev m)
  | cmd chid subc cls code p => exact dispatched h (execEngine_withMem s.cfg chid subc cls code p s.dev m)
  | d3dcmd chid code p => exact dispatched h (execD3d_withMem s.cfg chid code p s.dev m)
  | wrCache1Put data => exact finished h ⟨m, Device.putKick_withMem hk data s.dev m⟩
  | kick => exact finished h ⟨m, Device.kick_withMem hk s.dev m⟩
  | wrMcIntr data =>
    refine finished h ⟨m, ?_⟩
    rw [State.withMem, Device.ackLatch_withMem, Device.ackLatch_withMem]
    rfl
  | _ => exact finished h ⟨m, rfl⟩

/-- Settles O52: a read changes nothing, whatever the memory, and every other operation leaves the same state
but for the memory. -/
theorem memoryInfluencesNothingElse : Obligations.MemoryInfluencesNothingElse := by
  intro i s t m hk h
  cases hi : i.isRead with
  | false =>
    obtain ⟨m', hm'⟩ := exec_withMem m hk hi h
    exact ⟨t.withMem m', hm', rfl, rfl, rfl, rfl, fun _ => rfl⟩
  | true =>
    obtain ⟨v, hv⟩ := readsHaveNoSideEffect i s hi
    obtain ⟨w, hw⟩ := readsHaveNoSideEffect i (s.withMem m) hi
    rw [hv] at h
    cases h
    exact ⟨_, hw, rfl, rfl, rfl, rfl, nofun⟩

end Sys2Proof.Machine
end

section
/-! Statements of 30_encoding.md: the bank decode (R72), the decoder and the encoder (R70 to R74), and the
entry points (R78, R82). -/

namespace Sys2Proof

/-! ## Decode by bank selector and offset -/

/-- The value of the bank selector of each bank (30_encoding.md R72). -/
def Bank.selector : Bank → Nat
  | .masterControl => 0
  | .bus => 1
  | .fifo => 2
  | .cache1 => 3

theorem selector_of_bankOf {a : Word} {b : Bank} (h : bankOf a = some b) :
    (a.extractLsb' 12 12).toNat = b.selector := by
  unfold bankOf at h
  split at h <;> cases h <;> assumption

/-- The address of a register is its bank's selector followed by its offset (30_encoding.md R72). -/
theorem addr_of_regAtOffset {b : Bank} {o : Nat} {r : MmioReg} (h : b.regAtOffset o = some r) :
    r.addr.toNat = b.selector * 2 ^ 12 + o := by
  unfold Bank.regAtOffset at h
  split at h <;> cases h <;> rfl

/-- A register's own address selects it through its bank (30_encoding.md R72). -/
theorem regAtBanked_addr (r : MmioReg) : regAtBanked r.addr = some r := by
  cases r with
  | mcIntr => rfl
  | stored r => cases r <;> rfl

/-- Only a register's own address selects it through a bank: bits 31 to 24, the selector and the offset are
the whole address (30_encoding.md R72). -/
theorem addr_of_regAtBanked {a : Word} {r : MmioReg} (h : regAtBanked a = some r) : a = r.addr := by
  simp only [regAtBanked, Option.ite_none_right_eq_some, Option.bind_eq_some_iff] at h
  obtain ⟨htop, b, hbank, hoff⟩ := h
  have hsel := selector_of_bankOf hbank
  have haddr := addr_of_regAtOffset hoff
  apply BitVec.eq_of_toNat_eq
  have htop : (a.extractLsb' 24 8).toNat = 0 := by rw [htop]; rfl
  simp only [BitVec.extractLsb'_toNat, Nat.shiftRight_eq_div_pow] at htop hsel haddr
  omega

/-- Settles O4: both decodes select a register by its own address alone. -/
theorem bankDecodeIsFlatDecode : Obligations.BankDecodeIsFlatDecode := fun _ =>
  Option.ext fun r =>
    ⟨fun h => addr_of_regAtBanked h ▸ regAt_addr r, fun h => addr_of_regAt h ▸ regAtBanked_addr r⟩

/-! ## The decode of a register access -/

theorem decodeRead_addr (r : MmioReg) : decodeRead r.addr 4 = r.readRow := by
  simp [decodeRead, Nat.not_le.2 (addr_lt r)]

theorem decodeWrite_addr (r : MmioReg) (v : Word) : decodeWrite r.addr 4 v = r.writeRow v := by
  simp [decodeWrite, Nat.not_le.2 (addr_lt r)]

theorem decodeRead_of_sizeIsBad {a : Word} {n : Nat} (h : sizeIsBad n = true) :
    decodeRead a n = .rdBadsize a n :=
  if_pos (bne_iff_ne.1 h)

theorem decodeWrite_of_sizeIsBad {a : Word} {n : Nat} {v : Word} (h : sizeIsBad n = true) :
    decodeWrite a n v = .wrBadsize a n v :=
  if_pos (bne_iff_ne.1 h)

theorem decodeRead_of_outOfRange {a : Word} (h : addrIsOutOfRange a = true) :
    decodeRead a 4 = .rdOor a :=
  if_pos (of_decide_eq_true h)

theorem decodeWrite_of_outOfRange {a v : Word} (h : addrIsOutOfRange a = true) :
    decodeWrite a 4 v = .wrOor a v :=
  if_pos (of_decide_eq_true h)

theorem addrIsUnknown_iff {a : Word} :
    addrIsUnknown a = true ↔ a.toNat < mmioSize ∧ regAt a = none := by
  simp [addrIsUnknown]

theorem decodeRead_of_unknown {a : Word} (h : addrIsUnknown a = true) :
    decodeRead a 4 = .rdUnknown a := by
  obtain ⟨hlt, hreg⟩ := addrIsUnknown_iff.1 h
  simp [decodeRead, Nat.not_le.2 hlt, hreg]

theorem decodeWrite_of_unknown {a v : Word} (h : addrIsUnknown a = true) :
    decodeWrite a 4 v = .wrUnknown a v := by
  obtain ⟨hlt, hreg⟩ := addrIsUnknown_iff.1 h
  simp [decodeWrite, Nat.not_le.2 hlt, hreg]

/-- The order of the checks of a register access: size, then range, then address (30_encoding.md R73). -/
theorem mmio_cases (a : Word) (n : Nat) :
    sizeIsBad n = true ∨
      n = 4 ∧ (addrIsOutOfRange a = true ∨ addrIsUnknown a = true ∨ ∃ r : MmioReg, a = r.addr) := by
  by_cases hn : n = 4
  · refine .inr ⟨hn, ?_⟩
    by_cases ha : mmioSize ≤ a.toNat
    · exact .inl (decide_eq_true ha)
    · cases hr : regAt a with
      | none => exact .inr (.inl (addrIsUnknown_iff.2 ⟨Nat.not_le.1 ha, hr⟩))
      | some r => exact .inr (.inr ⟨r, addr_of_regAt hr⟩)
  · exact .inl (bne_iff_ne.2 hn)

/-! ## The decode of a command -/

/-- The row that a class and, for an engine that asks it, the method code select (30_encoding.md R74). -/
def classRow (c : Config) (ch : ChanId) (u : SubId) (cls code p : Word) : Option EngineClass → Instr
  | some .kelvin => kelvinRow (.cmd u cls) ch code p (c.d3dMethodOf code)
  | some .surf2d => surf2dRow ch u cls code p (c.surf2dMethodOf code)
  | some .gdi => .gdiAny ch u cls code p
  | some .m2mf => .m2mfAny ch u cls code p
  | some .ifc => .ifcAny ch u cls code p
  | none => .classUnknown ch u cls code p

theorem resolveCmd_of_chanOf_none (c : Config) {chid : Word} (subc cls code p : Word)
    (h : chanOf chid = none) : resolveCmd c chid subc cls code p = .cmdBadchid chid subc cls code p := by
  simp only [resolveCmd, h]

theorem resolveCmd_of_subOf_none (c : Config) {chid subc : Word} {ch : ChanId} (cls code p : Word)
    (h : chanOf chid = some ch) (hu : subOf subc = none) :
    resolveCmd c chid subc cls code p = .cmdBadsubc ch subc cls code p := by
  simp only [resolveCmd, h, hu]

/-- A command with checked ids goes to the row of its class (30_encoding.md R74). -/
theorem resolveCmd_of_ids (c : Config) {chid subc : Word} {ch : ChanId} {u : SubId} (cls code p : Word)
    (h : chanOf chid = some ch) (hu : subOf subc = some u) :
    resolveCmd c chid subc cls code p = classRow c ch u cls code p (c.classOf cls) := by
  simp only [resolveCmd, h, hu]
  rfl

theorem resolveD3dcmd_of_chanOf_none (c : Config) {chid : Word} (code p : Word)
    (h : chanOf chid = none) : resolveD3dcmd c chid code p = .d3dcmd chid code p := by
  simp only [resolveD3dcmd, h]

theorem resolveD3dcmd_of_chanOf (c : Config) {chid : Word} {ch : ChanId} (code p : Word)
    (h : chanOf chid = some ch) :
    resolveD3dcmd c chid code p = kelvinRow .d3dcmd ch code p (c.d3dMethodOf code) := by
  simp only [resolveD3dcmd, h]

theorem decode_cmdRecord (c : Config) (ch : ChanId) (u : SubId) (cls code p : Word) :
    decode c (cmdRecord ch u cls code p) = classRow c ch u cls code p (c.classOf cls) :=
  resolveCmd_of_ids c cls code p (chanOf_field ch) (subOf_field u)

theorem decode_of_classIs {c : Config} {cls : Word} {k : Option EngineClass} (ch : ChanId) (u : SubId)
    (code p : Word) (h : classIs c cls k = true) :
    decode c (cmdRecord ch u cls code p) = classRow c ch u cls code p k := by
  rw [decode_cmdRecord, beq_iff_eq.1 h]

/-- A record that enters the 3D engine goes to the row of its method (43_d3d_methods.md R170). -/
theorem decode_of_selectsKelvin {c : Config} {via : Entry} {code : Word} {m : Option D3DMethod}
    (ch : ChanId) (p : Word) (h : selectsKelvin c via code m = true) :
    decode c (via.record ch code p) = kelvinRow via ch code p m := by
  obtain ⟨hvia, hm⟩ := Bool.and_eq_true_iff.1 h
  rw [← beq_iff_eq.1 hm]
  cases via with
  | cmd u cls => exact decode_of_classIs ch u code p hvia
  | d3dcmd => exact resolveD3dcmd_of_chanOf c code p (chanOf_field ch)

theorem decode_of_selectsSurf2d {c : Config} {cls code : Word} {m : Option Surf2DMethod} (ch : ChanId)
    (u : SubId) (p : Word) (h : selectsSurf2d c cls code m = true) :
    decode c (cmdRecord ch u cls code p) = surf2dRow ch u cls code p m := by
  obtain ⟨hcls, hm⟩ := Bool.and_eq_true_iff.1 h
  rw [← beq_iff_eq.1 hm]
  exact decode_of_classIs ch u code p hcls

/-! ## Encode, then decode -/

/-- The record of a well-formed operation that is no entry point decodes to it. The rows without a condition
have a record whose decode computes; each of the others has the law for its condition above. -/
theorem decode_of_encode {c : Config} {i : Instr} {t : Transaction} (hwf : i.wf c = true)
    (hi : i.isEntryPoint = false) (h : encode i = some t) : decode c t = i := by
  cases i
  case cmd | d3dcmd => cases hi
  case kick => cases h
  all_goals cases h
  case rdBadsize => exact decodeRead_of_sizeIsBad hwf
  case wrBadsize => exact decodeWrite_of_sizeIsBad hwf
  case rdOor => exact decodeRead_of_outOfRange hwf
  case wrOor => exact decodeWrite_of_outOfRange hwf
  case rdUnknown => exact decodeRead_of_unknown hwf
  case wrUnknown => exact decodeWrite_of_unknown hwf
  case cmdBadchid subc cls code p =>
    exact resolveCmd_of_chanOf_none c subc cls code p (Option.isNone_iff_eq_none.1 hwf)
  case cmdBadsubc ch subc cls code p =>
    exact resolveCmd_of_subOf_none c cls code p (chanOf_field ch) (Option.isNone_iff_eq_none.1 hwf)
  case kelvinSemaphoreObject ch code p | kelvinSemaphoreOffset ch code p | kelvinClipHorizontal ch code p
      | kelvinClipVertical ch code p | kelvinSurfaceFormat ch code p | kelvinSurfacePitch ch code p
      | kelvinSurfaceColorOffset ch code p | kelvinClearSurface ch code p
      | kelvinColorClearValue ch code p | kelvinSemaphoreAcquire ch code p | kelvinUnknown ch code p =>
    exact decode_of_selectsKelvin ch p hwf
  case surf2dFormat ch u _ _ p | surf2dPitch ch u _ _ p | surf2dOffsetSrc ch u _ _ p
      | surf2dOffsetDst ch u _ _ p | surf2dUnknown ch u _ _ p =>
    exact decode_of_selectsSurf2d ch u p hwf
  case gdiAny ch u _ code p | m2mfAny ch u _ code p | ifcAny ch u _ code p
      | classUnknown ch u _ code p =>
    exact decode_of_classIs ch u code p hwf
  all_goals rfl

/-- The record of an entry point selects it by its format (30_encoding.md R78). -/
theorem entryPoint_of_encode {i : Instr} {t : Transaction} (hi : i.isEntryPoint = true)
    (h : encode i = some t) : entryPoint t = some i := by
  cases i
  case cmd | d3dcmd => cases h; rfl
  all_goals cases hi

/-- Settles O2, by the law of each of the two kinds of operation. -/
theorem decodeOfEncodeIsTheOperation : Obligations.DecodeOfEncodeIsTheOperation :=
  fun _ _ _ hwf h => ⟨fun hi => decode_of_encode hwf hi h, fun hi => entryPoint_of_encode hi h⟩

/-! ## Decode, then encode -/

/-- `i` is a well-formed operation that `t` is the record of, in a format that the table gives its row
(30_encoding.md R78, R79). -/
structure IsNameOf (c : Config) (i : Instr) (t : Transaction) : Prop where
  wf : i.wf c = true
  encode : encode i = some t
  format : t.format ∈ i.formats

theorem isNameOf_readRow (c : Config) (r : MmioReg) : IsNameOf c r.readRow (.mmioRead r.addr 4) := by
  cases r with
  | mcIntr => exact ⟨rfl, rfl, .head _⟩
  | stored r => cases r <;> exact ⟨rfl, rfl, .head _⟩

theorem isNameOf_writeRow (c : Config) (r : MmioReg) (v : Word) :
    IsNameOf c (r.writeRow v) (.mmioWrite r.addr 4 v) := by
  cases r with
  | mcIntr => exact ⟨rfl, rfl, .head _⟩
  | stored r => cases r <;> exact ⟨rfl, rfl, .head _⟩

theorem isNameOf_decodeRead (c : Config) (a : Word) (n : Nat) :
    IsNameOf c (decodeRead a n) (.mmioRead a n) := by
  obtain h | ⟨rfl, h | h | ⟨r, rfl⟩⟩ := mmio_cases a n
  · rw [decodeRead_of_sizeIsBad h]; exact ⟨h, rfl, .head _⟩
  · rw [decodeRead_of_outOfRange h]; exact ⟨h, rfl, .head _⟩
  · rw [decodeRead_of_unknown h]; exact ⟨h, rfl, .head _⟩
  · rw [decodeRead_addr]; exact isNameOf_readRow c r

theorem isNameOf_decodeWrite (c : Config) (a : Word) (n : Nat) (v : Word) :
    IsNameOf c (decodeWrite a n v) (.mmioWrite a n v) := by
  obtain h | ⟨rfl, h | h | ⟨r, rfl⟩⟩ := mmio_cases a n
  · rw [decodeWrite_of_sizeIsBad h]; exact ⟨h, rfl, .head _⟩
  · rw [decodeWrite_of_outOfRange h]; exact ⟨h, rfl, .head _⟩
  · rw [decodeWrite_of_unknown h]; exact ⟨h, rfl, .head _⟩
  · rw [decodeWrite_addr]; exact isNameOf_writeRow c r v

theorem Entry.record_format_mem (via : Entry) (ch : ChanId) (code p : Word) :
    (via.record ch code p).format ∈ [Format.cmd, .d3dcmd] := by
  cases via with
  | cmd => exact .head _
  | d3dcmd => exact .tail _ (.head _)

/-- Both entries name the row of the 3D method table that the code selects (43_d3d_methods.md R170). -/
theorem isNameOf_kelvinRow {c : Config} {via : Entry} (ch : ChanId) (code p : Word)
    (hvia : entersKelvin c via = true) :
    IsNameOf c (kelvinRow via ch code p (c.d3dMethodOf code)) (via.record ch code p) := by
  have hsel : selectsKelvin c via code (c.d3dMethodOf code) = true :=
    Bool.and_eq_true_iff.2 ⟨hvia, beq_self_eq_true _⟩
  have hfmt := via.record_format_mem ch code p
  generalize c.d3dMethodOf code = m at hsel ⊢
  cases m with
  | none => exact ⟨hsel, rfl, hfmt⟩
  | some m => cases m <;> exact ⟨hsel, rfl, hfmt⟩

theorem isNameOf_surf2dRow {c : Config} {cls : Word} (ch : ChanId) (u : SubId) (code p : Word)
    (hcls : classIs c cls (some .surf2d) = true) :
    IsNameOf c (surf2dRow ch u cls code p (c.surf2dMethodOf code)) (cmdRecord ch u cls code p) := by
  have hsel : selectsSurf2d c cls code (c.surf2dMethodOf code) = true :=
    Bool.and_eq_true_iff.2 ⟨hcls, beq_self_eq_true _⟩
  generalize c.surf2dMethodOf code = m at hsel ⊢
  cases m with
  | none => exact ⟨hsel, rfl, .head _⟩
  | some m => cases m <;> exact ⟨hsel, rfl, .head _⟩

theorem isNameOf_classRow (c : Config) (ch : ChanId) (u : SubId) (cls code p : Word) :
    IsNameOf c (classRow c ch u cls code p (c.classOf cls)) (cmdRecord ch u cls code p) := by
  have hcls : classIs c cls (c.classOf cls) = true := beq_self_eq_true _
  generalize c.classOf cls = k at hcls ⊢
  cases k with
  | none => exact ⟨hcls, rfl, .head _⟩
  | some k =>
    cases k with
    | kelvin => exact isNameOf_kelvinRow (via := .cmd u cls) ch code p hcls
    | surf2d => exact isNameOf_surf2dRow ch u code p hcls
    | gdi | m2mf | ifc => exact ⟨hcls, rfl, .head _⟩

theorem isNameOf_resolveCmd (c : Config) (chid subc cls code p : Word) :
    IsNameOf c (resolveCmd c chid subc cls code p) (.cmd chid subc cls code p) := by
  cases hc : chanOf chid with
  | none =>
    rw [resolveCmd_of_chanOf_none c _ _ _ _ hc]
    exact ⟨Option.isNone_iff_eq_none.2 hc, rfl, .head _⟩
  | some ch =>
    cases hu : subOf subc with
    | none =>
      rw [resolveCmd_of_subOf_none c _ _ _ hc hu, ← field_of_chanOf hc]
      exact ⟨Option.isNone_iff_eq_none.2 hu, rfl, .head _⟩
    | some u =>
      rw [resolveCmd_of_ids c _ _ _ hc hu, ← field_of_chanOf hc, ← field_of_subOf hu]
      exact isNameOf_classRow c ch u cls code p

theorem isNameOf_resolveD3dcmd (c : Config) (chid code p : Word) :
    IsNameOf c (resolveD3dcmd c chid code p) (.d3dcmd chid code p) := by
  cases hc : chanOf chid with
  | none => rw [resolveD3dcmd_of_chanOf_none c _ _ hc]; exact ⟨rfl, rfl, .head _⟩
  | some ch =>
    rw [resolveD3dcmd_of_chanOf c _ _ hc, ← field_of_chanOf hc]
    exact isNameOf_kelvinRow (via := .d3dcmd) ch code p rfl

/-- The decoder names every record (30_encoding.md R79). -/
theorem isNameOf_decode (c : Config) (t : Transaction) : IsNameOf c (decode c t) t := by
  cases t with
  | mmioRead a n => exact isNameOf_decodeRead c a n
  | mmioWrite a n v => exact isNameOf_decodeWrite c a n v
  | cmd chid subc cls code p => exact isNameOf_resolveCmd c chid subc cls code p
  | d3dcmd chid code p => exact isNameOf_resolveD3dcmd c chid code p
  | raminRead | raminWrite | linRead | linWrite | evtBus | evtFifo | rst => exact ⟨rfl, rfl, .head _⟩

/-- Settles O3: the decoder gives a name, and by the round trip of O2 any other is an entry point. -/
theorem everyRecordHasOneName : Obligations.EveryRecordHasOneName := by
  intro c t
  obtain ⟨hwf, henc, hfmt⟩ := isNameOf_decode c t
  refine ⟨hwf, henc, hfmt, fun i hi hentry h => ?_⟩
  have heq : decode c t = i := decode_of_encode hi hentry h
  exact ⟨heq ▸ hentry, heq.symm⟩

/-- Settles O1, by the laws of the decoder above; the formats without a condition compute. -/
theorem recordsNameTheirRows : Obligations.RecordsNameTheirRows :=
  ⟨congrArg some (decodeRead_addr .mcIntr),
    congrArg some (decodeRead_addr (.stored .cache1Semaphore)),
    decodeWrite_addr (.stored .cache1Put) 0x40,
    decodeRead_of_sizeIsBad rfl,
    decodeRead_of_outOfRange rfl,
    decodeWrite_of_unknown rfl,
    rfl, rfl,
    resolveCmd_of_chanOf_none Config.launch (chid := 32) 0 0 0 0 rfl,
    resolveCmd_of_subOf_none Config.launch (subc := 8) 0 0 0 (chanOf_field 31) rfl,
    rfl, rfl⟩

end Sys2Proof

namespace Sys2Proof.Machine

/-! ## The entry points -/

/-- A row of the 3D method table has the effect of the table, whichever entry it was reached by
(43_d3d_methods.md R170). -/
theorem exec_kelvinRow (via : Entry) (c : ChanId) (code p : Word) (s : State) :
    exec (kelvinRow via c code p (s.cfg.d3dMethodOf code)) s =
      s.dispatched (execD3dMethod s.cfg c code p s.dev) := by
  unfold execD3dMethod
  cases s.cfg.d3dMethodOf code with
  | none => rfl
  | some m => cases m <;> rfl

theorem exec_surf2dRow (c : ChanId) (u : SubId) (cls code p : Word) (s : State) :
    exec (surf2dRow c u cls code p (s.cfg.surf2dMethodOf code)) s =
      s.dispatched (execSurf2d s.cfg c code p s.dev) := by
  unfold execSurf2d
  cases s.cfg.surf2dMethodOf code with
  | none => rfl
  | some m => cases m <;> rfl

/-- `CMD` does what its row does (30_encoding.md R78): both follow the order of the checks, channel,
subchannel, class, method (R74). -/
theorem exec_cmd (s : State) (chid subc cls code p : Word) :
    exec (.cmd chid subc cls code p) s = exec (resolveCmd s.cfg chid subc cls code p) s := by
  change s.dispatched (execEngine s.cfg chid subc cls code p s.dev) = _
  unfold execEngine
  cases hc : chanOf chid with
  | none => rw [resolveCmd_of_chanOf_none _ _ _ _ _ hc]; rfl
  | some c =>
    cases hu : subOf subc with
    | none => rw [resolveCmd_of_subOf_none _ _ _ _ hc hu]; rfl
    | some u =>
      rw [resolveCmd_of_ids _ _ _ _ hc hu]
      cases s.cfg.classOf cls with
      | none => rfl
      | some k =>
        cases k with
        | kelvin => exact (exec_kelvinRow (.cmd u cls) c code p s).symm
        | surf2d => exact (exec_surf2dRow c u cls code p s).symm
        | gdi | m2mf | ifc => rfl

/-- `D3DCMD` does what its row does; with a bad channel it is its own row (30_encoding.md R78). -/
theorem exec_d3dcmd (s : State) (chid code p : Word) :
    exec (.d3dcmd chid code p) s = exec (resolveD3dcmd s.cfg chid code p) s := by
  cases hc : chanOf chid with
  | none => rw [resolveD3dcmd_of_chanOf_none _ _ _ hc]
  | some c =>
    rw [resolveD3dcmd_of_chanOf _ _ _ hc, exec_kelvinRow]
    change s.dispatched (execD3d s.cfg chid code p s.dev) = _
    simp only [execD3d, hc]

/-- Settles O6, by the law of each entry point. -/
theorem entryPointRunsItsRow : Obligations.EntryPointRunsItsRow := fun s chid subc cls code p =>
  ⟨exec_cmd s chid subc cls code p, exec_d3dcmd s chid code p⟩

/-- Settles O7: both entries resolve to a row of the 3D method table with the same method, and the effect of
the row does not depend on the entry. -/
theorem d3dcmdIsCmdToKelvin : Obligations.D3dcmdIsCmdToKelvin := by
  intro s chid subc cls code p hchid hsubc hcls
  have hc : chanOf chid = some ⟨chid.toNat, hchid⟩ := dif_pos hchid
  have hu : subOf subc = some ⟨subc.toNat, hsubc⟩ := dif_pos hsubc
  have hd3d : exec (.d3dcmd chid code p) s =
      s.dispatched (execD3dMethod s.cfg ⟨chid.toNat, hchid⟩ code p s.dev) := by
    rw [exec_d3dcmd, resolveD3dcmd_of_chanOf _ _ _ hc, exec_kelvinRow]
  have hcmd : exec (.cmd chid subc cls code p) s =
      s.dispatched (execD3dMethod s.cfg ⟨chid.toNat, hchid⟩ code p s.dev) := by
    rw [exec_cmd, resolveCmd_of_ids _ _ _ _ hc hu, hcls]
    exact exec_kelvinRow (.cmd _ cls) _ code p s
  exact ⟨_, hd3d, hcmd⟩

end Sys2Proof.Machine
end

section
/-! Statements of 40_register_frontend.md: the reads and writes of the twenty registers (R90 to R139), and the
accesses that are rejected (R92 to R97) or lie beyond their space (95_test_vectors.md S3). -/

namespace Sys2Proof

/-- An address that is no register's selects none (30_encoding.md R72). -/
theorem regAt_eq_none_of_forall_ne_addr {a : Word} (h : ∀ r : MmioReg, a ≠ r.addr) : regAt a = none :=
  Option.eq_none_iff_forall_ne_some.2 fun r hr => h r (addr_of_regAt hr)

/-- The condition of the `UNKNOWN` rows, told by the addresses (40_register_frontend.md R96, R97). -/
theorem addrIsUnknown_of_forall_ne_addr {a : Word} (hlt : a.toNat < mmioSize)
    (h : ∀ r : MmioReg, a ≠ r.addr) : addrIsUnknown a = true :=
  addrIsUnknown_iff.2 ⟨hlt, regAt_eq_none_of_forall_ne_addr h⟩

end Sys2Proof

namespace Sys2Proof.Machine

/-! ## What the operations of a register do -/

/-- The read of every stored register answers its value (40_register_frontend.md R90). -/
theorem exec_readRow_stored (r : Reg) (s : State) :
    exec (MmioReg.stored r).readRow s = s.answer (s.dev.reg.get r) := by
  cases r <;> rfl

/-- The three interrupt enables (40_register_frontend.md R103, R109, R113). -/
def enables : List Reg := [.mcIntrEn, .busIntrEn, .fifoIntrEn]

/-- A register that is no input of the aggregator and does not kick is stored and nothing else
(10_state.md R10). -/
theorem exec_writeRow_of_plain {r : Reg} (hr : r ∉ aggregatorInputs) (hput : r ≠ .cache1Put) (v : Word)
    (s : State) : exec ((MmioReg.stored r).writeRow v) s = s.wrote (s.dev.writeReg r v) := by
  cases r with
  | mcIntrEn | busIntr | busIntrEn | fifoIntr | fifoIntrEn => exact absurd (by decide) hr
  | cache1Put => exact absurd rfl hput
  | _ => rfl

/-- An enable is stored, then the line is driven (41_interrupt_aggregator.md R143). -/
theorem exec_writeRow_of_enable {r : Reg} (hr : r ∈ enables) (v : Word) (s : State) :
    exec ((MmioReg.stored r).writeRow v) s = s.wrote (s.dev.writeReg r v).updateIrq := by
  simp only [enables, List.mem_cons, List.not_mem_nil, or_false] at hr
  obtain rfl | rfl | rfl := hr <;> rfl

/-- The bits of a latch that are 1 in the value are cleared, then the line is driven
(10_state.md R14, R16). -/
theorem exec_writeRow_of_latch {r : Reg} (hr : r ∈ latches) (v : Word) (s : State) :
    exec ((MmioReg.stored r).writeRow v) s =
      s.wrote (s.dev.writeReg r (s.dev.reg.get r &&& ~~~v)).updateIrq := by
  simp only [latches, List.mem_cons, List.not_mem_nil, or_false] at hr
  obtain rfl | rfl := hr <;> rfl

/-- With push disabled, the write of `CACHE1_PUT` is the write of a plain register
(40_register_frontend.md R125). -/
theorem exec_wrCache1Put_of_push_disabled {s : State} (h : pushEnabled s.dev.reg = false) (v : Word) :
    exec (.wrCache1Put v) s = s.wrote (s.dev.writeReg .cache1Put v) := by
  change s.wrote (if pushEnabled s.dev.reg then _ else _) = _
  simp [h]

/-- With push enabled, the write of `CACHE1_PUT` is the store followed by the kick
(40_register_frontend.md R125). -/
theorem exec_wrCache1Put_of_push_enabled {s : State} (h : pushEnabled s.dev.reg = true) (v : Word) :
    exec (.wrCache1Put v) s = exec .kick { s with dev := s.dev.writeReg .cache1Put v } := by
  change s.wrote (if pushEnabled s.dev.reg then _ else _) =
    s.wrote ((s.dev.writeReg .cache1Put v).kick s.cfg)
  simp [h]

/-! ## What a write leaves unchanged -/

theorem regsKept_writeReg (s : State) (r : Reg) (v : Word) (x : Ret) :
    RegsKept s { s with dev := s.dev.writeReg r v, ret := x } [r] := fun _ hq =>
  RegFile.get_set_ne _ v (List.ne_of_not_mem_cons hq)

/-- The store of a register is its whole effect (10_state.md R10). -/
theorem onlyRegs_writeReg (s : State) (r : Reg) (v : Word) (x : Ret) :
    OnlyRegs s { s with dev := s.dev.writeReg r v, ret := x } [r] :=
  ⟨regsKept_writeReg s r v x, fun _ _ => rfl, fun _ => rfl, ⟨rfl, rfl⟩, ⟨rfl, rfl⟩⟩

/-- Driving the line adds nothing but the line and its recorded level to what has changed
(41_interrupt_aggregator.md R142). -/
theorem onlyRegsAndLine_updateIrq {s : State} {d : Device} {written : List Reg} {x : Ret}
    (h : OnlyRegs s { s with dev := d, ret := x } written) :
    OnlyRegsAndLine s { s with dev := d.updateIrq, ret := x } written := by
  obtain ⟨hreg, hchan, hmem, ⟨-, hout⟩, henv⟩ := h
  exact ⟨hreg, hchan, hmem, ⟨rfl, congrArg (· ++ _) hout⟩, henv⟩

/-! ## The three shapes of a register's row -/

/-- Every stored register is read at its address (40_register_frontend.md R90). -/
theorem readsRegister_readRow (r : Reg) :
    ReadsRegister (MmioReg.stored r).addr (MmioReg.stored r).readRow r := fun _ s =>
  ⟨decodeRead_addr _, exec_readRow_stored r s⟩

/-- Every plain register is stored at its address (40_register_frontend.md R91). -/
theorem storesRegister_writeRow {r : Reg} (hr : r ∉ aggregatorInputs) (hput : r ≠ .cache1Put) :
    StoresRegister (MmioReg.stored r).addr (fun v => (MmioReg.stored r).writeRow v) r := fun _ v s =>
  ⟨decodeWrite_addr _ v, _, exec_writeRow_of_plain hr hput v s, RegFile.get_set_same _ r v, rfl,
    onlyRegs_writeReg s r v .none⟩

/-- A register whose write row stores `new old v` and drives the line has the shape of an enable or a latch
at its address (40_register_frontend.md R91). -/
theorem drivesRegister_writeRow {r : Reg} {new : Word → Word → Word}
    (h : ∀ v s, exec ((MmioReg.stored r).writeRow v) s =
      s.wrote (s.dev.writeReg r (new (s.dev.reg.get r) v)).updateIrq) :
    DrivesRegister (MmioReg.stored r).addr (fun v => (MmioReg.stored r).writeRow v) r new := fun _ v s =>
  ⟨decodeWrite_addr _ v, _, h v s, RegFile.get_set_same _ r _, rfl,
    onlyRegsAndLine_updateIrq (onlyRegs_writeReg s r _ .none)⟩

/-- Every interrupt enable is stored at its address, then the line is driven
(41_interrupt_aggregator.md R143). -/
theorem drivesRegister_of_enable {r : Reg} (hr : r ∈ enables) :
    DrivesRegister (MmioReg.stored r).addr (fun v => (MmioReg.stored r).writeRow v) r (fun _ v => v) :=
  drivesRegister_writeRow (exec_writeRow_of_enable hr)

/-- Each latch is cleared by and-not at its address, then the line is driven (10_state.md R14, R16). -/
theorem drivesRegister_of_latch {r : Reg} (hr : r ∈ latches) :
    DrivesRegister (MmioReg.stored r).addr (fun v => (MmioReg.stored r).writeRow v) r
      (fun old v => old &&& ~~~v) :=
  drivesRegister_writeRow (exec_writeRow_of_latch hr)

/-! ## Register reads -/

/-- Settles O9: each row is the read of one stored register. -/
theorem bankRegistersRead : Obligations.BankRegistersRead :=
  ⟨readsRegister_readRow .mcIntrEn, readsRegister_readRow .mcEnable, readsRegister_readRow .busIntr,
    readsRegister_readRow .busIntrEn, readsRegister_readRow .fifoIntr, readsRegister_readRow .fifoIntrEn,
    readsRegister_readRow .fifoRamht, readsRegister_readRow .fifoRamfc, readsRegister_readRow .fifoRamro,
    readsRegister_readRow .fifoMode⟩

/-- Settles O10: each row is the read of one stored register. -/
theorem cache1RegistersRead : Obligations.Cache1RegistersRead :=
  ⟨readsRegister_readRow .cache1Push1, readsRegister_readRow .cache1Put,
    readsRegister_readRow .cache1DmaPush, readsRegister_readRow .cache1DmaInstance,
    readsRegister_readRow .cache1DmaPut, readsRegister_readRow .cache1DmaGet,
    readsRegister_readRow .cache1RefCnt, readsRegister_readRow .cache1Pull,
    readsRegister_readRow .cache1Semaphore⟩

/-- The aggregate word is made of two single bits, each set by its pair of registers
(41_interrupt_aggregator.md R141). -/
theorem getLsbD_aggregate (f : RegFile) (k : Nat) :
    (aggregate f).getLsbD k = true ↔
      (k = 0 ∧ f.busIntr &&& f.busIntrEn ≠ 0) ∨ (k = 8 ∧ f.fifoIntr &&& f.fifoIntrEn ≠ 0) := by
  have bit0 : (0x00000001 : Word).getLsbD k = true ↔ k = 0 := by
    rw [show (0x00000001 : Word) = BitVec.twoPow 32 0 from rfl, BitVec.getLsbD_twoPow]
    simp [eq_comm]
  have bit8 : (0x00000100 : Word).getLsbD k = true ↔ k = 8 := by
    rw [show (0x00000100 : Word) = BitVec.twoPow 32 8 from rfl, BitVec.getLsbD_twoPow]
    simp [eq_comm]
  unfold aggregate
  rw [BitVec.getLsbD_or, Bool.or_eq_true]
  refine or_congr ?_ ?_
  · split <;> simp_all
  · split <;> simp_all

/-- Settles O11: the value read is the aggregate word, whose bits the law above gives. -/
theorem mcIntrReadsTheAggregateWord : Obligations.McIntrReadsTheAggregateWord := by
  intro c s
  refine ⟨decodeRead_addr .mcIntr, aggregate s.dev.reg, rfl, ?_, ?_, ?_⟩
  · rw [getLsbD_aggregate]; simp
  · rw [getLsbD_aggregate]; simp
  · intro k h0 h8
    rw [Bool.eq_false_iff, ne_eq, getLsbD_aggregate]
    simp [h0, h8]

/-! ## Rejected accesses -/

/-- Settles O12: the six rows do nothing, and each range of the checks decodes to its rows. -/
theorem rejectedAccessesHaveNoEffect : Obligations.RejectedAccessesHaveNoEffect := by
  refine ⟨fun c s a n v => ⟨fun hn => ?_, rfl, rfl⟩, fun c s a v => ⟨fun ha => ?_, rfl, rfl⟩,
    fun c s a v => ⟨fun hlt ha => ?_, rfl, rfl⟩⟩
  · have h : sizeIsBad n = true := bne_iff_ne.2 hn
    exact ⟨decodeRead_of_sizeIsBad h, decodeWrite_of_sizeIsBad h⟩
  · have h : addrIsOutOfRange a = true := decide_eq_true ha
    exact ⟨decodeRead_of_outOfRange h, decodeWrite_of_outOfRange h⟩
  · have h : addrIsUnknown a = true := addrIsUnknown_of_forall_ne_addr hlt ha
    exact ⟨decodeRead_of_unknown h, decodeWrite_of_unknown h⟩

/-! ## Register writes -/

/-- Settles O13: none of the five drives the line or kicks. -/
theorem plainBankRegistersStore : Obligations.PlainBankRegistersStore :=
  ⟨storesRegister_writeRow (r := .mcEnable) (by decide) (by decide),
    storesRegister_writeRow (r := .fifoRamht) (by decide) (by decide),
    storesRegister_writeRow (r := .fifoRamfc) (by decide) (by decide),
    storesRegister_writeRow (r := .fifoRamro) (by decide) (by decide),
    storesRegister_writeRow (r := .fifoMode) (by decide) (by decide)⟩

/-- Settles O14: none of the eight drives the line or kicks. -/
theorem plainCache1RegistersStore : Obligations.PlainCache1RegistersStore :=
  ⟨storesRegister_writeRow (r := .cache1Push1) (by decide) (by decide),
    storesRegister_writeRow (r := .cache1DmaPush) (by decide) (by decide),
    storesRegister_writeRow (r := .cache1DmaInstance) (by decide) (by decide),
    storesRegister_writeRow (r := .cache1DmaPut) (by decide) (by decide),
    storesRegister_writeRow (r := .cache1DmaGet) (by decide) (by decide),
    storesRegister_writeRow (r := .cache1RefCnt) (by decide) (by decide),
    storesRegister_writeRow (r := .cache1Pull) (by decide) (by decide),
    storesRegister_writeRow (r := .cache1Semaphore) (by decide) (by decide)⟩

/-- Settles O15, by the law of the enables. -/
theorem enablesStoreAndDriveTheLine : Obligations.EnablesStoreAndDriveTheLine :=
  ⟨drivesRegister_of_enable (r := .mcIntrEn) (by decide),
    drivesRegister_of_enable (r := .busIntrEn) (by decide),
    drivesRegister_of_enable (r := .fifoIntrEn) (by decide)⟩

/-- Settles O16, by the law of the latches. -/
theorem latchesClearByAndNot : Obligations.LatchesClearByAndNot :=
  ⟨drivesRegister_of_latch (r := .busIntr) (by decide),
    drivesRegister_of_latch (r := .fifoIntr) (by decide)⟩

/-- The two acknowledges of `MC_INTR` change the two latches and nothing else
(40_register_frontend.md R101). -/
theorem onlyRegs_ackLatch_ackLatch (s : State) (b c : Bool) (x : Ret) :
    OnlyRegs s { s with dev := (s.dev.ackLatch .busIntr b).ackLatch .fifoIntr c, ret := x }
      [.busIntr, .fifoIntr] := by
  refine ⟨fun q hq => ?_, fun e _ => ?_, fun a => ?_, ⟨?_, ?_⟩, ⟨rfl, rfl⟩⟩
  · simp only [List.mem_cons, List.not_mem_nil, or_false, not_or] at hq
    obtain ⟨hbus, hfifo⟩ := hq
    simp [Device.ackLatch_get, hbus, hfifo]
  · simp
  · simp
  · simp
  · simp

/-- Settles O17: each acknowledge clears its own latch, then the line is driven. -/
theorem mcIntrWriteClearsWholeLatches : Obligations.McIntrWriteClearsWholeLatches := by
  intro c v s
  refine ⟨decodeWrite_addr .mcIntr v, _, rfl, ?_, ?_, rfl,
    onlyRegsAndLine_updateIrq (onlyRegs_ackLatch_ackLatch s _ _ .none)⟩
  · simp [Device.ackLatch_get, acksBus]
  · simp [Device.ackLatch_get, acksFifo]

/-- Settles O19, by the law of the write for each value of push enable; a kick keeps every register and the
line. -/
theorem putStoresThenKicksIfEnabled : Obligations.PutStoresThenKicksIfEnabled := by
  intro c v s
  refine ⟨decodeWrite_addr (.stored .cache1Put) v, fun h => ?_, fun h => ?_⟩
  · exact ⟨_, exec_wrCache1Put_of_push_disabled h v, RegFile.get_set_same _ .cache1Put v, rfl,
      onlyRegs_writeReg s .cache1Put v .none⟩
  · have hkeep := Device.kick_reg s.cfg (s.dev.writeReg .cache1Put v)
    refine ⟨_, exec_wrCache1Put_of_push_enabled h v, rfl, ?_, rfl, fun q hq => ?_, ?_, rfl, rfl⟩
    · exact (congrArg (·.get .cache1Put) hkeep).trans (RegFile.get_set_same _ .cache1Put v)
    · exact (congrArg (·.get q) hkeep).trans (regsKept_writeReg s .cache1Put v .none q hq)
    · exact Device.kick_irq s.cfg (s.dev.writeReg .cache1Put v)

/-! ## Accesses beyond the register space or the window -/

/-- A register read beyond the register space answers 0 at every size (40_register_frontend.md R92, R94). -/
theorem exec_decodeRead_of_outOfRange {a : Word} (h : addrIsOutOfRange a = true) (n : Nat) (s : State) :
    exec (decodeRead a n) s = s.answer 0 := by
  by_cases hn : n = 4
  · rw [hn, decodeRead_of_outOfRange h]; rfl
  · rw [decodeRead_of_sizeIsBad (bne_iff_ne.2 hn)]; rfl

/-- A register write beyond the register space changes nothing at every size
(40_register_frontend.md R93, R95). -/
theorem exec_decodeWrite_of_outOfRange {a : Word} (h : addrIsOutOfRange a = true) (n : Nat) (v : Word)
    (s : State) : exec (decodeWrite a n v) s = s.wrote s.dev := by
  by_cases hn : n = 4
  · rw [hn, decodeWrite_of_outOfRange h]; rfl
  · rw [decodeWrite_of_sizeIsBad (bne_iff_ne.2 hn)]; rfl

/-- A window access of an accepted size at or beyond the window's end does not fit in the window
(20_memory.md R57). -/
theorem not_window_fits_of_le {c : Config} {a n : Nat} (ha : c.raminSize ≤ a) :
    ¬ ((n = 1 ∨ n = 4) ∧ a + n ≤ c.raminSize) := by omega

/-- A window read beyond the window returns 0 at every size (44_memory_shim.md R193). -/
theorem Device.raminRead_of_le (d : Device) {c : Config} {a : Nat} (ha : c.raminSize ≤ a) (n : Nat) :
    d.raminRead c a n = 0 := by
  rw [Device.raminRead_eq, if_neg (not_window_fits_of_le ha)]

/-- A window write beyond the window leaves the device at every size (44_memory_shim.md R194). -/
theorem Device.raminWrite_of_le (d : Device) {c : Config} {a : Nat} (ha : c.raminSize ≤ a) (n : Nat)
    (v : Word) : d.raminWrite c a n v = d := by
  have hmem : (d.raminWrite c a n v).mem = d.mem := by
    rw [Device.raminWrite_mem, if_neg (not_window_fits_of_le ha)]
  calc d.raminWrite c a n v
      = d.withMem (d.raminWrite c a n v).mem := Device.eq_withMem (by simp) (by simp) (by simp) (by simp)
    _ = d := by rw [hmem]; rfl

/-- Settles O49: the step takes the record and runs its operation, which beyond either space answers 0 or
leaves the device. -/
theorem boundsSafety : Obligations.BoundsSafety := by
  intro s rest addr a size v haddr ha
  have hout : addrIsOutOfRange addr = true := decide_eq_true haddr
  refine ⟨fun h => ?_, fun h => ?_, fun h => ?_, fun h => ?_⟩ <;> rw [step_of_env_cons h]
  · exact exec_decodeRead_of_outOfRange hout size _
  · exact exec_decodeWrite_of_outOfRange hout size v _
  · change State.answer { s with env := rest } (s.dev.raminRead s.cfg a size) = _
    rw [s.dev.raminRead_of_le ha]
    rfl
  · change State.wrote { s with env := rest } (s.dev.raminWrite s.cfg a size v) = _
    rw [s.dev.raminWrite_of_le ha]
    rfl

end Sys2Proof.Machine
end

section
/-! Statements of 41_interrupt_aggregator.md: the two forms of the line (R142, R146), the operations that
drive it (R143 to R145), and the invariant of the line (R147), with the launch state that meets it. -/

namespace Sys2Proof.Machine

/-! ## The line as a function of the registers -/

/-- Two words meet iff they share a bit. -/
theorem and_ne_zero_iff (v w : Word) : v &&& w ≠ 0 ↔ ∃ k, v.getLsbD k = true ∧ w.getLsbD k = true := by
  constructor
  · intro h
    by_contra hno
    refine h (BitVec.eq_of_getLsbD_eq fun k _ => ?_)
    have hk : ¬ (v.getLsbD k = true ∧ w.getLsbD k = true) := fun hk => hno ⟨k, hk⟩
    simpa using hk
  · rintro ⟨k, hv, hw⟩ h
    have hbit : (v &&& w).getLsbD k = true := by simp [hv, hw]
    simp [h] at hbit

/-- A first-level gate is high iff an enabled cause is latched (41_interrupt_aggregator.md R146). -/
theorem bankGate_iff (latch enable : Word) : bankGate latch enable = true ↔ latch &&& enable ≠ 0 := by
  rw [and_ne_zero_iff]
  simp only [bankGate, List.any_eq_true, List.mem_range, Bool.and_eq_true]
  exact ⟨fun ⟨k, _, hk⟩ => ⟨k, hk⟩, fun ⟨k, hk⟩ => ⟨k, BitVec.lt_of_getLsbD hk.1, hk⟩⟩

/-- Settles O25: a bit of the aggregate word that `MC_INTR_EN` enables is bit 0 or bit 8. -/
theorem lineIsTheMaskedAggregate : Obligations.LineIsTheMaskedAggregate := by
  intro f
  rw [line, bne_iff_ne, and_ne_zero_iff]
  simp only [getLsbD_aggregate]
  constructor
  · rintro ⟨k, ⟨rfl, hbus⟩ | ⟨rfl, hfifo⟩, hen⟩
    · exact .inl ⟨hbus, hen⟩
    · exact .inr ⟨hfifo, hen⟩
  · rintro (⟨hbus, hen⟩ | ⟨hfifo, hen⟩)
    · exact ⟨0, .inl ⟨rfl, hbus⟩, hen⟩
    · exact ⟨8, .inr ⟨rfl, hfifo⟩, hen⟩

/-- Settles O26: each gate of the tree is one condition of the derived form of the line. -/
theorem orTreeComputesTheLine : Obligations.OrTreeComputesTheLine := by
  intro f
  rw [Bool.eq_iff_iff, lineIsTheMaskedAggregate f]
  simp only [lineTree, Bool.or_eq_true, Bool.and_eq_true, bankGate_iff]

/-- The line depends on the five inputs of the aggregator alone (41_interrupt_aggregator.md R140). -/
theorem line_congr {f g : RegFile} (h : ∀ r ∈ aggregatorInputs, g.get r = f.get r) : line g = line f := by
  have hmc : g.mcIntrEn = f.mcIntrEn := h .mcIntrEn (by decide)
  have hbus : g.busIntr = f.busIntr := h .busIntr (by decide)
  have hbusEn : g.busIntrEn = f.busIntrEn := h .busIntrEn (by decide)
  have hfifo : g.fifoIntr = f.fifoIntr := h .fifoIntr (by decide)
  have hfifoEn : g.fifoIntrEn = f.fifoIntrEn := h .fifoIntrEn (by decide)
  simp only [line, aggregate, hmc, hbus, hbusEn, hfifo, hfifoEn]

/-! ## The operations that drive the line -/

/-- A transaction that ends in `UpdateIrq()` and has emitted nothing before it drives the line
(41_interrupt_aggregator.md R142). -/
theorem lineDriven_updateIrq {s : State} {d : Device} {x : Ret} (hout : d.out = s.dev.out) :
    LineDriven s { s with dev := d.updateIrq, ret := x } :=
  ⟨rfl, congrArg (· ++ _) hout⟩

/-- Each of the named operations drives the line (41_interrupt_aggregator.md R143). -/
theorem exec_lineDriven {i : Instr} {s t : State} (hi : i.drivesLine = true) (h : exec i s = .next t) :
    LineDriven s t := by
  cases i with
  | wrMcIntr => cases h; exact lineDriven_updateIrq (by simp)
  | wrMcIntrEn | wrBusIntr | wrBusIntrEn | wrFifoIntr | wrFifoIntrEn | eventBus | eventFifo | reset =>
    cases h; exact lineDriven_updateIrq rfl
  | _ => cases hi

/-! ## The operations that leave the line -/

/-- From `d` to `e` the line is not driven, and no output but the full-redraw signal is emitted. -/
def RedrawsOnly (d e : Device) : Prop :=
  e.irq = d.irq ∧ ∃ es, e.out = d.out ++ es ∧ ∀ x ∈ es, x = .fullRedraw

theorem RedrawsOnly.of_outputs_eq {d e : Device} (hirq : e.irq = d.irq) (hout : e.out = d.out) :
    RedrawsOnly d e :=
  ⟨hirq, [], by simp [hout], nofun⟩

theorem RedrawsOnly.trans {d e f : Device} (h : RedrawsOnly d e) (h' : RedrawsOnly e f) :
    RedrawsOnly d f := by
  obtain ⟨hirq, es, hout, hes⟩ := h
  obtain ⟨hirq', es', hout', hes'⟩ := h'
  exact ⟨hirq'.trans hirq, es ++ es', by simp [hout', hout], List.forall_mem_append.2 ⟨hes, hes'⟩⟩

/-- A 3D method emits nothing but the redraw of `CLEAR_SURFACE` (43_d3d_methods.md R170). -/
theorem redrawsOnly_runD3d (cfg : Config) (m : D3DMethod) (c : ChanId) (p : Word) (d : Device) :
    RedrawsOnly d (runD3d cfg m c p d) := by
  obtain ⟨-, -, x, h⟩ | ⟨-, x, h⟩ | ⟨-, o, f, h⟩ := runD3d_cases cfg m c p d <;> rw [h]
  · exact .of_outputs_eq rfl rfl
  · exact ⟨rfl, [.fullRedraw], rfl, fun _ => List.eq_of_mem_singleton⟩
  · exact .of_outputs_eq (by simp) (by simp)

/-- A kick does not drive the line (42_command_dispatcher.md R163). -/
theorem redrawsOnly_kick (cfg : Config) (d : Device) : RedrawsOnly d (d.kick cfg) :=
  Device.kick_induct cfg d (.of_outputs_eq rfl rfl) fun c _ m p e he =>
    he.trans (redrawsOnly_runD3d cfg m c p e)

/-- An operation that is not named leaves the line and records no level
(41_interrupt_aggregator.md R143). -/
theorem exec_redrawsOnly {i : Instr} {s t : State} (hi : i.drivesLine = false) (h : exec i s = .next t) :
    RedrawsOnly s.dev t.dev := by
  have hno : i.drivesLine ≠ true := by simp [hi]
  obtain ⟨hd, -, -⟩ := exec_change h
  generalize t.dev = d at hd ⊢
  cases hd with
  | same | plain | surf2d => exact .of_outputs_eq rfl rfl
  | linear | window => exact .of_outputs_eq (by simp) (by simp)
  | method m c p => exact redrawsOnly_runD3d s.cfg m c p s.dev
  | kick => exact redrawsOnly_kick s.cfg s.dev
  | putKick v => exact redrawsOnly_kick s.cfg (s.dev.writeReg .cache1Put v)
  | driven _ _ _ hd => exact absurd hd hno
  | acked _ _ hd => exact absurd hd hno
  | reset he => subst he; exact absurd rfl hno

/-- Settles O27, by the law for each kind of operation. -/
theorem updateIrqRunsExactlyWhereNamed : Obligations.UpdateIrqRunsExactlyWhereNamed :=
  fun _ _ _ h => ⟨fun hi => exec_lineDriven hi h, fun hi => exec_redrawsOnly hi h⟩

/-! ## The events -/

/-- Setting the bits of a latch, then driving the line, is the write of that register
(41_interrupt_aggregator.md R144, R145). -/
theorem onlyRegsAndLine_setLatch (s : State) (r : Reg) (mask : Word) (x : Ret) :
    OnlyRegsAndLine s { s with dev := (s.dev.setLatch r mask).updateIrq, ret := x } [r] :=
  onlyRegsAndLine_updateIrq (onlyRegs_writeReg s r (s.dev.reg.get r ||| mask) x)

/-- Settles O23: each event sets the bits of its own latch, then the line is driven. -/
theorem eventsSetLatchBits : Obligations.EventsSetLatchBits := fun _ mask s =>
  ⟨rfl, rfl,
    ⟨_, rfl, RegFile.get_set_same _ .busIntr _, rfl, onlyRegsAndLine_setLatch s .busIntr mask .none⟩,
    ⟨_, rfl, RegFile.get_set_same _ .fifoIntr _, rfl, onlyRegsAndLine_setLatch s .fifoIntr mask .none⟩⟩

/-! ## The invariant of the line -/

/-- Every operation keeps the invariant of the line: it drives the line to the level of the registers that
it leaves, or leaves both the line and every input of it (41_interrupt_aggregator.md R147). -/
theorem exec_keeps_lineInv {i : Instr} {s t : State} (hs : s.lineInv) (h : exec i s = .next t) :
    t.lineInv := by
  cases hi : i.drivesLine with
  | true =>
    obtain ⟨hirq, -⟩ := exec_lineDriven hi h
    exact hirq
  | false =>
    obtain ⟨hirq, -⟩ := exec_redrawsOnly hi h
    have hline : line t.dev.reg = line s.dev.reg :=
      line_congr fun _ hr => exec_keeps_aggregatorInputs hi h hr
    calc t.dev.irq = s.dev.irq := hirq
      _ = line s.dev.reg := hs
      _ = line t.dev.reg := hline.symm

/-- A step does nothing, or runs one operation with its transaction taken from the list
(00_scope.md R6). -/
theorem step_cases {s t : State} (h : step s = .next t) :
    t = s ∨ ∃ i rest, exec i { s with env := rest } = .next t := by
  cases he : s.env with
  | nil =>
    rw [step_of_env_nil he] at h
    exact .inl (Host.Outcome.next.inj h).symm
  | cons x rest =>
    rw [step_of_env_cons he] at h
    exact .inr ⟨_, rest, h⟩

/-- Settles O28: a step runs one operation or none. -/
theorem stepKeepsTheLine : Obligations.StepKeepsTheLine := by
  intro s t hs h
  obtain rfl | ⟨i, rest, h⟩ := step_cases h
  · exact hs
  · exact exec_keeps_lineInv (s := { s with env := rest }) hs h

/-! ## The launch state -/

/-- No cause is latched after reset, so the line is low (10_state.md R42). -/
theorem line_initial : line RegFile.initial = false := by decide

/-- Settles O60: the line is low with no cause latched, no byte is listed, and every channel is as at
reset. -/
theorem launchStateMeetsTheInvariants : Obligations.LaunchStateMeetsTheInvariants := by
  refine ⟨line_initial.symm, ⟨rfl, rfl⟩, fun c => ?_⟩
  rw [State.reset_channel]
  exact .head _

end Sys2Proof.Machine
end

section
/-! Statements of 42_command_dispatcher.md: the order of the checks and the failing rows (R151, R158, R162,
R165, R166), routing by the class operand (R152), the 2D-surface engine (R154 to R157), the engines that
accept everything (R159 to R161), the FIFO kick (R163, R164) and the bindings (R167). -/

namespace Sys2Proof.Machine

/-! ## The rows that a record selects -/

/-- A `CMD` record with checked ids is the row of its class (30_encoding.md R74). -/
theorem isCmdRow_of_classRow {k : Option EngineClass} {m : Config → Word → Prop}
    {i : ChanId → SubId → Word → Word → Word → Instr}
    (h : ∀ cfg c u cls code p, m cfg code → classRow cfg c u cls code p k = i c u cls code p) :
    IsCmdRow k m i := by
  intro cfg c u cls code p hk hm
  rw [decode_cmdRecord, hk]
  exact h cfg c u cls code p hm

/-- A `CMD` record to the 2D-surface engine is the row of its method (42_command_dispatcher.md R154 to
R158). -/
theorem isCmdRow_surf2dRow (m : Option Surf2DMethod) :
    IsCmdRow (some .surf2d) (fun cfg code => cfg.surf2dMethodOf code = m)
      (fun c u cls code p => surf2dRow c u cls code p m) :=
  isCmdRow_of_classRow fun _ c u cls code p hm => congrArg (surf2dRow c u cls code p) hm

/-- A record that enters the 3D engine is the row of its method (43_d3d_methods.md R170). -/
theorem isKelvinRow_kelvinRow (m : Option D3DMethod) :
    IsKelvinRow m (fun via c code p => kelvinRow via c code p m) := fun _ _ c _ p hvia hm =>
  decode_of_selectsKelvin c p (Bool.and_eq_true_iff.2 ⟨hvia, beq_iff_eq.2 hm⟩)

/-! ## What the rows of one channel leave unchanged -/

/-- Replacing the D3DState of a channel is its own whole effect (10_state.md R33). -/
theorem onlyD3d_setD3d (s : State) (c : ChanId) (x : D3DState) (r : Ret) :
    OnlyD3d s { s with dev := s.dev.setD3d c x, ret := r } c x := by
  refine ⟨?_, ?_, ?_, fun _ _ => rfl, fun e he => ?_, fun _ => rfl, rfl, rfl⟩
  · simp
  · simp
  · simp
  · exact s.dev.channel_setD3d_ne x (List.ne_of_not_mem_cons he)

/-- Replacing the Surf2DState of a channel is its own whole effect (10_state.md R33). -/
theorem onlySurf2d_setSurf2d (s : State) (c : ChanId) (x : Surf2DState) (r : Ret) :
    OnlySurf2d s { s with dev := s.dev.setSurf2d c x, ret := r } c x := by
  refine ⟨?_, ?_, ?_, fun _ _ => rfl, fun e he => ?_, fun _ => rfl, ⟨rfl, rfl⟩, rfl, rfl⟩
  · simp
  · simp
  · simp
  · exact s.dev.channel_setSurf2d_ne x (List.ne_of_not_mem_cons he)

/-! ## The 2D-surface engine -/

/-- The Surf2DState with the parameter stored in the field of a method (42_command_dispatcher.md R154 to
R157). -/
def Surf2DState.store (x : Surf2DState) (p : Word) : Surf2DMethod → Surf2DState
  | .format => { x with format := p }
  | .pitch => { x with pitch := p }
  | .offsetSrc => { x with offsetSrc := p }
  | .offsetDst => { x with offsetDst := p }

/-- The row of each 2D-surface method stores the parameter in its field and succeeds. -/
theorem exec_surf2dRow_some (m : Surf2DMethod) (c : ChanId) (u : SubId) (cls code p : Word) (s : State) :
    exec (surf2dRow c u cls code p (some m)) s =
      s.dispatched (s.dev.setSurf2d c ((s.dev.channel c).surf2d.store p m), true) := by
  cases m <;> rfl

theorem execSurf2d_of_some {cfg : Config} {code : Word} {m : Surf2DMethod}
    (h : cfg.surf2dMethodOf code = some m) (c : ChanId) (p : Word) (d : Device) :
    execSurf2d cfg c code p d = (d.setSurf2d c ((d.channel c).surf2d.store p m), true) := by
  simp only [execSurf2d, h]
  cases m <;> rfl

theorem execSurf2d_of_none {cfg : Config} {code : Word} (h : cfg.surf2dMethodOf code = none) (c : ChanId)
    (p : Word) (d : Device) : execSurf2d cfg c code p d = (d, false) := by
  simp only [execSurf2d, h]

/-- Every 2D-surface method has the shape of a setter. -/
theorem setsSurf2d_surf2dRow (m : Surf2DMethod) :
    SetsSurf2d m (fun c u cls code p => surf2dRow c u cls code p (some m)) (fun x p => x.store p m) :=
  ⟨isCmdRow_surf2dRow (some m), fun c u cls code p s =>
    ⟨_, exec_surf2dRow_some m c u cls code p s, onlySurf2d_setSurf2d s c _ _, rfl⟩⟩

/-- Settles O35: each of the four is the setter of its method. -/
theorem surf2dSettersStoreVerbatim : Obligations.Surf2dSettersStoreVerbatim :=
  ⟨setsSurf2d_surf2dRow .format, setsSurf2d_surf2dRow .pitch, setsSurf2d_surf2dRow .offsetSrc,
    setsSurf2d_surf2dRow .offsetDst⟩

/-! ## Rows without effect -/

/-- Settles O36: the class alone selects the row, and the row answers with the device untouched. -/
theorem acceptingEnginesChangeNothing : Obligations.AcceptingEnginesChangeNothing :=
  ⟨isCmdRow_of_classRow fun _ _ _ _ _ _ _ => rfl, isCmdRow_of_classRow fun _ _ _ _ _ _ _ => rfl,
    isCmdRow_of_classRow fun _ _ _ _ _ _ _ => rfl, fun _ _ _ _ _ _ => ⟨rfl, rfl, rfl⟩⟩

/-- Settles O37: each check that fails selects its row, and the row answers with the device untouched. -/
theorem failingRowsReturnFalse : Obligations.FailingRowsReturnFalse := by
  refine ⟨fun cfg s chid subc cls code p => ⟨fun h => ?_, rfl⟩,
    fun cfg s c subc cls code p => ⟨fun h => ?_, rfl⟩,
    isCmdRow_of_classRow fun _ _ _ _ _ _ _ => rfl, isCmdRow_surf2dRow none, isKelvinRow_kelvinRow none,
    fun _ _ _ _ _ _ _ => ⟨rfl, rfl, rfl⟩⟩
  · exact resolveCmd_of_chanOf_none cfg subc cls code p (chanOf_eq_none.2 h)
  · exact resolveCmd_of_subOf_none cfg cls code p (chanOf_field c) (subOf_eq_none.2 h)

/-! ## The stages of a command -/

/-- What the engine of a class does with a command whose ids have passed their checks
(42_command_dispatcher.md R150). -/
def execClass (cfg : Config) (c : ChanId) (code p : Word) (d : Device) : Option EngineClass → Device × Bool
  | some .kelvin => execD3dMethod cfg c code p d
  | some .surf2d => execSurf2d cfg c code p d
  | some .gdi => (d, true)
  | some .m2mf => (d, true)
  | some .ifc => (d, true)
  | none => (d, false)

theorem execEngine_of_chanOf_none (cfg : Config) {chid : Word} (subc cls code p : Word) (d : Device)
    (h : chanOf chid = none) : execEngine cfg chid subc cls code p d = (d, false) := by
  simp only [execEngine, h]

theorem execEngine_of_subOf_none (cfg : Config) {chid subc : Word} {c : ChanId} (cls code p : Word)
    (d : Device) (h : chanOf chid = some c) (hu : subOf subc = none) :
    execEngine cfg chid subc cls code p d = (d, false) := by
  simp only [execEngine, h, hu]

/-- A command with checked ids goes to the engine of its class; the subchannel plays no further part
(42_command_dispatcher.md R152). -/
theorem execEngine_of_ids (cfg : Config) {chid subc : Word} {c : ChanId} {u : SubId} (cls code p : Word)
    (d : Device) (h : chanOf chid = some c) (hu : subOf subc = some u) :
    execEngine cfg chid subc cls code p d = execClass cfg c code p d (cfg.classOf cls) := by
  simp only [execEngine, h, hu]
  rfl

/-! ## When a command fails -/

/-- A dispatch with the result `r` fails iff `P`, and then leaves the device `d` that it found
(42_command_dispatcher.md R165). -/
def FailsIff (P : Prop) (d : Device) (r : Device × Bool) : Prop :=
  (r.2 = false ↔ P) ∧ (r.2 = false → r.1 = d)

theorem FailsIff.failed {P : Prop} (h : P) (d : Device) : FailsIff P d (d, false) :=
  ⟨iff_of_true rfl h, fun _ => rfl⟩

theorem FailsIff.succeeded {P : Prop} (h : ¬P) (d e : Device) : FailsIff P d (e, true) :=
  ⟨iff_of_false nofun h, nofun⟩

theorem FailsIff.congr {P Q : Prop} {d : Device} {r : Device × Bool} (h : FailsIff P d r) (hPQ : P ↔ Q) :
    FailsIff Q d r := by
  rwa [← hPQ]

/-- What a caller sees of a dispatch that fails iff `P`. -/
theorem FailsIff.dispatched {P : Prop} {s : State} {r : Device × Bool} (h : FailsIff P s.dev r) :
    ∃ t b, s.dispatched r = .next t ∧ t.ret = .success b ∧ (b = false ↔ P) ∧
      (b = false → t = { s with ret := .success false }) := by
  obtain ⟨hiff, hdev⟩ := h
  exact ⟨_, r.2, s.dispatched_eq r, rfl, hiff, fun hb => by rw [hdev hb, hb]⟩

theorem execD3dMethod_failsIff (cfg : Config) (c : ChanId) (code p : Word) (d : Device) :
    FailsIff (cfg.d3dMethodOf code = none) d (execD3dMethod cfg c code p d) := by
  obtain ⟨m, hm, h⟩ | ⟨hm, h⟩ := execD3dMethod_cases cfg c code p d <;> rw [h]
  · exact .succeeded (by simp [hm]) d _
  · exact .failed hm d

theorem execSurf2d_failsIff (cfg : Config) (c : ChanId) (code p : Word) (d : Device) :
    FailsIff (cfg.surf2dMethodOf code = none) d (execSurf2d cfg c code p d) := by
  cases hm : cfg.surf2dMethodOf code with
  | none => rw [execSurf2d_of_none hm]; exact .failed rfl d
  | some m => rw [execSurf2d_of_some hm]; exact .succeeded nofun d _

/-- With checked ids, a command fails iff its class or its method is unknown. -/
theorem execClass_failsIff (cfg : Config) (c : ChanId) (code p : Word) (d : Device)
    (k : Option EngineClass) :
    FailsIff (k = none ∨ (k = some .kelvin ∧ cfg.d3dMethodOf code = none) ∨
      (k = some .surf2d ∧ cfg.surf2dMethodOf code = none)) d (execClass cfg c code p d k) := by
  cases k with
  | none => exact .failed (.inl rfl) d
  | some k =>
    cases k with
    | kelvin => exact (execD3dMethod_failsIff cfg c code p d).congr (by simp)
    | surf2d => exact (execSurf2d_failsIff cfg c code p d).congr (by simp)
    | gdi | m2mf | ifc => exact .succeeded (by simp) d d

/-- A `CMD` fails iff one of its checks rejects it (42_command_dispatcher.md R165). -/
theorem execEngine_failsIff (cfg : Config) (chid subc cls code p : Word) (d : Device) :
    FailsIff (CmdRejected cfg chid subc cls code) d (execEngine cfg chid subc cls code p d) := by
  unfold CmdRejected
  rw [← chanOf_eq_none, ← subOf_eq_none]
  cases hc : chanOf chid with
  | none => rw [execEngine_of_chanOf_none cfg _ _ _ _ d hc]; exact .failed (.inl rfl) d
  | some c =>
    cases hu : subOf subc with
    | none => rw [execEngine_of_subOf_none cfg _ _ _ d hc hu]; exact .failed (.inr (.inl rfl)) d
    | some u =>
      rw [execEngine_of_ids cfg _ _ _ d hc hu]
      exact (execClass_failsIff cfg c code p d _).congr (by simp)

/-- A `D3DCMD` fails iff its channel is bad or its method unknown (42_command_dispatcher.md R166). -/
theorem execD3d_failsIff (cfg : Config) (chid code p : Word) (d : Device) :
    FailsIff (32 ≤ chid.toNat ∨ cfg.d3dMethodOf code = none) d (execD3d cfg chid code p d) := by
  rw [← chanOf_eq_none]
  unfold execD3d
  cases chanOf chid with
  | none => exact .failed (.inl rfl) d
  | some c => exact (execD3dMethod_failsIff cfg c code p d).congr (by simp)

/-- Settles O38, by the failure law of each entry point. -/
theorem dispatchFailsWithoutEffect : Obligations.DispatchFailsWithoutEffect :=
  fun s chid subc cls code p =>
    ⟨(execEngine_failsIff s.cfg chid subc cls code p s.dev).dispatched,
      (execD3d_failsIff s.cfg chid code p s.dev).dispatched⟩

/-! ## What the bindings influence -/

/-- The devices `d` and `e` differ in the bindings of their channels at most. -/
structure SameButBindings (d e : Device) : Prop where
  reg : e.reg = d.reg
  mem : e.mem = d.mem
  irq : e.irq = d.irq
  out : e.out = d.out
  d3d : ∀ c, (e.channel c).d3d = (d.channel c).d3d
  surf2d : ∀ c, (e.channel c).surf2d = (d.channel c).surf2d

theorem SameButBindings.setD3d {d e : Device} (h : SameButBindings d e) (c : ChanId) {x y : D3DState}
    (hxy : y = x) : SameButBindings (d.setD3d c x) (e.setD3d c y) := by
  subst hxy
  refine ⟨h.reg, h.mem, h.irq, h.out, fun b => ?_, fun b => ?_⟩ <;> by_cases hb : b = c
  · subst hb; simp
  · simp [Device.channel_setD3d_ne _ _ hb, h.d3d b]
  · subst hb; simp [h.surf2d b]
  · simp [Device.channel_setD3d_ne _ _ hb, h.surf2d b]

theorem SameButBindings.setSurf2d {d e : Device} (h : SameButBindings d e) (c : ChanId)
    {x y : Surf2DState} (hxy : y = x) : SameButBindings (d.setSurf2d c x) (e.setSurf2d c y) := by
  subst hxy
  refine ⟨h.reg, h.mem, h.irq, h.out, fun b => ?_, fun b => ?_⟩ <;> by_cases hb : b = c
  · subst hb; simp [h.d3d b]
  · simp [Device.channel_setSurf2d_ne _ _ hb, h.d3d b]
  · subst hb; simp
  · simp [Device.channel_setSurf2d_ne _ _ hb, h.surf2d b]

theorem SameButBindings.emit {d e : Device} (h : SameButBindings d e) (x : OutEvent) :
    SameButBindings (d.emit x) (e.emit x) :=
  ⟨h.reg, h.mem, h.irq, congrArg (· ++ [x]) h.out, h.d3d, h.surf2d⟩

theorem SameButBindings.write32 {d e : Device} (h : SameButBindings d e) (cfg : Config)
    (o f v : Word) : SameButBindings (d.write32 cfg o f v) (e.write32 cfg o f v) where
  reg := by simp [h.reg]
  mem := by simp only [Device.write32_mem, h.mem]
  irq := by simp [h.irq]
  out := by simp [h.out]
  d3d c := by simp [h.d3d c]
  surf2d c := by simp [h.surf2d c]

/-- A 3D method reads the D3DState of its channel at most, and so takes nothing from the bindings. -/
theorem SameButBindings.runD3d {d e : Device} (h : SameButBindings d e) (cfg : Config) (m : D3DMethod)
    (c : ChanId) (p : Word) : SameButBindings (runD3d cfg m c p d) (runD3d cfg m c p e) := by
  cases m with
  | semaphoreAcquire =>
    simp only [Machine.runD3d, Device.semaphoreAcquire, h.d3d c]
    exact h.write32 cfg _ _ p
  | clearSurface => exact (h.setD3d c (by rw [h.d3d c])).emit .fullRedraw
  | semaphoreObject | semaphoreOffset | clipHorizontal | clipVertical | surfaceFormat | surfacePitch
  | surfaceColorOffset | colorClearValue => exact h.setD3d c (by rw [h.d3d c])

/-- Two dispatches with the results `r` and `q` succeed or fail alike, on devices that differ in the
bindings at most. -/
def DispatchedAlike (r q : Device × Bool) : Prop := SameButBindings r.1 q.1 ∧ q.2 = r.2

theorem SameButBindings.execD3dMethod {d e : Device} (h : SameButBindings d e) (cfg : Config)
    (c : ChanId) (code p : Word) :
    DispatchedAlike (execD3dMethod cfg c code p d) (execD3dMethod cfg c code p e) := by
  unfold Machine.execD3dMethod
  cases cfg.d3dMethodOf code with
  | none => exact ⟨h, rfl⟩
  | some m => exact ⟨h.runD3d cfg m c p, rfl⟩

theorem SameButBindings.execSurf2d {d e : Device} (h : SameButBindings d e) (cfg : Config)
    (c : ChanId) (code p : Word) :
    DispatchedAlike (execSurf2d cfg c code p d) (execSurf2d cfg c code p e) := by
  cases hm : cfg.surf2dMethodOf code with
  | none => rw [execSurf2d_of_none hm, execSurf2d_of_none hm]; exact ⟨h, rfl⟩
  | some m =>
    rw [execSurf2d_of_some hm, execSurf2d_of_some hm]
    exact ⟨h.setSurf2d c (by rw [h.surf2d c]), rfl⟩

theorem SameButBindings.execClass {d e : Device} (h : SameButBindings d e) (cfg : Config)
    (c : ChanId) (code p : Word) (k : Option EngineClass) :
    DispatchedAlike (execClass cfg c code p d k) (execClass cfg c code p e k) := by
  cases k with
  | none => exact ⟨h, rfl⟩
  | some k =>
    cases k with
    | kelvin => exact h.execD3dMethod cfg c code p
    | surf2d => exact h.execSurf2d cfg c code p
    | gdi | m2mf | ifc => exact ⟨h, rfl⟩

/-- A command reads the class operand and no binding; of the subchannel it asks only that it is in range
(42_command_dispatcher.md R152). -/
theorem SameButBindings.execEngine {d e : Device} (h : SameButBindings d e) (cfg : Config)
    {subc subc' : Word} (hsubc : subc.toNat < 8) (hsubc' : subc'.toNat < 8) (chid cls code p : Word) :
    DispatchedAlike (execEngine cfg chid subc cls code p d) (execEngine cfg chid subc' cls code p e) := by
  have hu : subOf subc = some ⟨subc.toNat, hsubc⟩ := dif_pos hsubc
  have hu' : subOf subc' = some ⟨subc'.toNat, hsubc'⟩ := dif_pos hsubc'
  cases hc : chanOf chid with
  | none =>
    rw [execEngine_of_chanOf_none cfg _ _ _ _ d hc, execEngine_of_chanOf_none cfg _ _ _ _ e hc]
    exact ⟨h, rfl⟩
  | some c =>
    rw [execEngine_of_ids cfg _ _ _ d hc hu, execEngine_of_ids cfg _ _ _ e hc hu']
    exact h.execClass cfg c code p _

/-- Settles O39: every stage of a command keeps two devices alike but for their bindings. -/
theorem routingIgnoresBindings : Obligations.RoutingIgnoresBindings := by
  intro s chid subc subc' cls code p d hsubc hsubc' hreg hmem hirq hout hchan
  have hd : SameButBindings s.dev d :=
    ⟨hreg, hmem, hirq, hout, fun c => (hchan c).1, fun c => (hchan c).2⟩
  obtain ⟨h, hret⟩ := hd.execEngine s.cfg hsubc hsubc' chid cls code p
  exact ⟨_, _, rfl, rfl, congrArg Ret.success hret, h.reg, h.mem, h.irq, h.out,
    fun c => ⟨h.d3d c, h.surf2d c⟩⟩

/-! ## Who writes the bindings -/

/-- The 2D-surface engine writes no binding (42_command_dispatcher.md R167). -/
theorem Device.channel_setSurf2d_bind (d : Device) (c b : ChanId) (x : Surf2DState) :
    ((d.setSurf2d c x).channel b).bind = (d.channel b).bind := by
  by_cases hb : b = c
  · subst hb; simp
  · rw [d.channel_setSurf2d_ne x hb]

/-- A kick writes no binding (42_command_dispatcher.md R167). -/
theorem Device.kick_bind (cfg : Config) (d : Device) (b : ChanId) :
    ((d.kick cfg).channel b).bind = (d.channel b).bind :=
  Device.kick_induct (P := fun e => (e.channel b).bind = (d.channel b).bind) cfg d rfl
    fun c _ m p e he => (runD3d_bind cfg m c p e b).1.trans he

/-- Settles O40, by the changes that an operation can make. -/
theorem onlyResetWritesBindings : Obligations.OnlyResetWritesBindings := by
  intro i s t hi h b
  obtain ⟨hd, -, -⟩ := exec_change h
  generalize t.dev = d at hd ⊢
  cases hd with
  | same | plain | driven => rfl
  | acked | linear | window => simp
  | method m c p => exact (runD3d_bind s.cfg m c p s.dev b).1
  | surf2d c x => exact s.dev.channel_setSurf2d_bind c b x
  | putKick v => exact (s.dev.writeReg .cache1Put v).kick_bind s.cfg b
  | kick => exact s.dev.kick_bind s.cfg b
  | reset hr => subst hr; cases hi

/-! ## The channel that a kick acts on -/

/-- A kick acts on the channel of bits 4:0 of `CACHE1_PUSH1` (42_command_dispatcher.md R164). -/
theorem exists_kicked_channel (f : RegFile) :
    ∃ c : ChanId, chanOf (kickChid f) = some c ∧ c.val = f.cache1Push1.toNat % 32 := by
  obtain ⟨c, hc, hval⟩ := chanOf_kickChid f
  exact ⟨c, hc, by simpa using hval⟩

/-- With the push-enable bit set the kicked channel is odd, as the bit is the lowest of the channel id
(10_state.md R22; 90_conflicts.md C2). -/
theorem kicked_channel_odd {f : RegFile} (hp : pushEnabled f = true) {c : ChanId}
    (hc : chanOf (kickChid f) = some c) : c.val % 2 = 1 := by
  obtain ⟨b, hb, hval⟩ := exists_kicked_channel f
  obtain rfl : b = c := Option.some.inj (hb.symm.trans hc)
  have hodd : f.cache1Push1.toNat % 2 = 1 := by
    simpa [pushEnabled, BitVec.getLsbD, Nat.testBit_zero] using hp
  omega

/-- Settles O22: without push enable the write is a store, and with it the kick acts on an odd channel. -/
theorem evenChannelsAreNeverKicked : Obligations.EvenChannelsAreNeverKicked := by
  intro v s t h c hc
  cases hp : pushEnabled s.dev.reg with
  | false =>
    rw [exec_wrCache1Put_of_push_disabled hp] at h
    cases h
    rfl
  | true =>
    rw [exec_wrCache1Put_of_push_enabled hp] at h
    cases h
    refine Device.kick_channel_ne s.cfg (s.dev.writeReg .cache1Put v) fun hk => ?_
    have hodd := kicked_channel_odd hp hk
    omega

/-! ## The commands of a kick -/

/-- The device that a list of 3D methods leaves, run in order on channel `c` (42_command_dispatcher.md
R163). -/
def runCommands (cfg : Config) (c : ChanId) (l : List (D3DMethod × Word)) (d : Device) : Device :=
  l.foldl (fun d mp => runD3d cfg mp.1 c mp.2 d) d

theorem Device.kick_eq_runCommands (cfg : Config) {d : Device} {c : ChanId}
    (hc : chanOf (kickChid d.reg) = some c) : d.kick cfg = runCommands cfg c (kickCommands cfg d) d := by
  simp only [Device.kick, hc, runCommands]

/-- The row of each 3D method has the effect of the method and succeeds (43_d3d_methods.md R170). -/
theorem exec_kelvinRow_some (m : D3DMethod) (via : Entry) (c : ChanId) (code p : Word) (s : State) :
    exec (kelvinRow via c code p (some m)) s = s.dispatched (runD3d s.cfg m c p s.dev, true) := by
  cases m <;> rfl

/-- The rows of a list of 3D methods complete one after another and leave the device that the methods
leave, whatever their codes. -/
theorem runOps_kelvinRows (c : ChanId) (code : Word) (l : List (D3DMethod × Word)) (s : State) :
    ∃ u, runOps (l.map fun mp => kelvinRow .d3dcmd c code mp.2 (some mp.1)) s = some u ∧
      u.dev = runCommands s.cfg c l s.dev := by
  induction l generalizing s with
  | nil => exact ⟨s, rfl, rfl⟩
  | cons mp l ih =>
    rw [List.map_cons, runOps_cons _ (exec_kelvinRow_some mp.1 .d3dcmd c code mp.2 s)]
    exact ih { s with dev := runD3d s.cfg mp.1 c mp.2 s.dev, ret := .success true }

/-- Settles O21: the kick and the rows of its commands leave the same device. -/
theorem kickRunsItsCommandsInOrder : Obligations.KickRunsItsCommandsInOrder := by
  intro s code
  obtain ⟨c, hc, hval⟩ := exists_kicked_channel s.dev.reg
  obtain ⟨u, hu, hdev⟩ := runOps_kelvinRows c code (kickCommands s.cfg s.dev) s
  refine ⟨c, _, u, hval, rfl, hu, ?_, rfl, fun r _ => ?_, s.dev.kick_irq s.cfg, rfl, rfl⟩
  · exact (Device.kick_eq_runCommands s.cfg hc).trans hdev.symm
  · exact congrArg (·.get r) (s.dev.kick_reg s.cfg)

/-- Settles O20: the stub's one command is the setter of the semaphore object. -/
theorem stubKickSetsTheSemaphoreObject : Obligations.StubKickSetsTheSemaphoreObject := by
  intro s hk
  obtain ⟨c, hc, hval⟩ := exists_kicked_channel s.dev.reg
  have hexec : exec .kick s = s.wrote (s.dev.semaphoreObject c s.cfg.kickParam) :=
    congrArg s.wrote (Device.kick_stub s.cfg s.dev hk hc)
  exact ⟨c, _, hval, hexec, onlyD3d_setD3d s c _ .none, ⟨rfl, rfl⟩, rfl⟩

end Sys2Proof.Machine
end

section
/-! Statements of 43_d3d_methods.md: the setters (R171 to R174, R177, R178, R180), the surface format (R175,
R176), the clear trigger (R179) and the semaphore write (R181), with the laws of a linear write that it rests
on (44_memory_shim.md R190, R192). -/

namespace Sys2Proof.Machine

/-! ## The setters -/

/-- The row of a 3D method whose effect is to update the D3DState of its channel has the shape of a setter
(43_d3d_methods.md R170). -/
theorem setsD3d_of_runD3d {m : D3DMethod} {upd : D3DState → Word → D3DState}
    (h : ∀ cfg c p d, runD3d cfg m c p d = d.setD3d c (upd (d.channel c).d3d p)) :
    SetsD3d m (fun via c code p => kelvinRow via c code p (some m)) upd := by
  refine ⟨isKelvinRow_kelvinRow (some m), fun via c code p s => ?_⟩
  simp only [exec_kelvinRow_some, h]
  exact ⟨_, rfl, onlyD3d_setD3d s c _ _, ⟨rfl, rfl⟩, rfl⟩

/-- Settles O29: the effect of each of the seven is the update of its field. -/
theorem kelvinSettersStoreVerbatim : Obligations.KelvinSettersStoreVerbatim :=
  ⟨setsD3d_of_runD3d fun _ _ _ _ => rfl, setsD3d_of_runD3d fun _ _ _ _ => rfl,
    setsD3d_of_runD3d fun _ _ _ _ => rfl, setsD3d_of_runD3d fun _ _ _ _ => rfl,
    setsD3d_of_runD3d fun _ _ _ _ => rfl, setsD3d_of_runD3d fun _ _ _ _ => rfl,
    setsD3d_of_runD3d fun _ _ _ _ => rfl⟩

/-! ## The surface format -/

/-- Every nibble but 1 and 3 has 4 bytes per pixel, 5 among them (43_d3d_methods.md R176). -/
theorem bppOf_of_ne {n : BitVec 4} (h1 : n ≠ 0x1) (h3 : n ≠ 0x3) : bppOf n = 4 := by
  simp only [bppOf, h1, h3, if_false, ite_self]

/-- Settles O31: the two nibbles with a value of their own by evaluation, the others by the law above. -/
theorem bppOfMapsEveryNibble : Obligations.BppOfMapsEveryNibble :=
  ⟨rfl, rfl, bppOf_of_ne (by decide) (by decide), fun _ h1 h3 _ => bppOf_of_ne h1 h3⟩

theorem formatNibble_toNat (p : Word) : (formatNibble p).toNat = p.toNat % 16 := by
  simp [formatNibble, BitVec.extractLsb'_toNat]

/-- The derived bytes per pixel, by the value of the parameter (43_d3d_methods.md R175). -/
theorem bppOf_formatNibble (p : Word) :
    bppOf (formatNibble p) = if p.toNat % 16 = 1 then 1 else if p.toNat % 16 = 3 then 2 else 4 := by
  have hval : ∀ k : BitVec 4, formatNibble p = k ↔ p.toNat % 16 = k.toNat := fun k => by
    rw [← formatNibble_toNat, BitVec.toNat_inj]
  simp only [bppOf, hval, ite_self]
  rfl

/-- Settles O30: `SURFACE_FORMAT` is a setter of two fields, the second by the derived value. -/
theorem surfaceFormatDerivesBytesPerPixel : Obligations.SurfaceFormatDerivesBytesPerPixel :=
  setsD3d_of_runD3d fun _ c p d => by
    rw [← bppOf_formatNibble]
    rfl

/-! ## The clear trigger -/

/-- An output event touches no channel, no register and no byte (10_state.md R47). -/
theorem OnlyD3d.emit {s t : State} {c : ChanId} {x : D3DState} (h : OnlyD3d s t c x) (e : OutEvent) :
    OnlyD3d s { t with dev := t.dev.emit e } c x := h

/-- Settles O32: the trigger value is stored as by a setter, and the signal ends the trace. -/
theorem clearSurfaceSignalsRedraw : Obligations.ClearSurfaceSignalsRedraw :=
  ⟨isKelvinRow_kelvinRow (some .clearSurface), fun _ c _ _ s =>
    ⟨_, rfl, (onlyD3d_setD3d s c _ (.success true)).emit .fullRedraw, rfl, rfl, rfl⟩⟩

/-! ## The writes of the shim -/

/-- The bytes that a wide write covers read as the bytes of the value (20_memory.md R51). -/
theorem Memory.read_writeBytes_add (o : ByteOrder) (m : Memory) (addr : Nat) {n i : Nat} (v : Word)
    (hi : i < n) : (m.writeBytes o addr n v).read (addr + i) = byteOf v (bytePos o n i) := by
  rw [Memory.read_writeBytes, if_pos (by omega), Nat.add_sub_cancel_left]

/-- After a 4-byte write the four bytes hold the value, in either order (20_memory.md R51). -/
theorem holdsWord_writeBytes (o : ByteOrder) (m : Memory) (addr : Nat) (v : Word) :
    HoldsWord o (m.writeBytes o addr 4 v) addr v := by
  have hbyte : ∀ i < 4, (m.writeBytes o addr 4 v).read (addr + i) = byteOf v (bytePos o 4 i) :=
    fun _ => m.read_writeBytes_add o addr v
  cases o with
  | little | big =>
    exact ⟨hbyte 0 (by decide), hbyte 1 (by decide), hbyte 2 (by decide), hbyte 3 (by decide)⟩

/-- A wide write changes the bytes that it covers and nothing else (20_memory.md R51). -/
theorem onlyBytes_writeBytes (s : State) (o : ByteOrder) (addr n : Nat) (v : Word) (r : Ret) :
    OnlyBytes s { s with dev := { s.dev with mem := s.dev.mem.writeBytes o addr n v }, ret := r } addr n :=
  ⟨fun _ _ => rfl, fun _ _ => rfl,
    fun a ha => (Memory.read_writeBytes o s.dev.mem addr n v a).trans (if_neg ha), ⟨rfl, rfl⟩, rfl, rfl⟩

/-- An operation that leaves the device changes no byte, whatever the bytes in question. -/
theorem onlyBytes_ret (s : State) (addr n : Nat) (r : Ret) : OnlyBytes s { s with ret := r } addr n :=
  ⟨fun _ _ => rfl, fun _ _ => rfl, fun _ _ => rfl, ⟨rfl, rfl⟩, rfl, rfl⟩

/-- A linear write that ends inside the region stores its four bytes (44_memory_shim.md R190, R192). -/
theorem Device.write32_of_le (d : Device) {c : Config} {o f : Word} (v : Word)
    (h : linAddress o f + 4 ≤ c.regionSize) :
    d.write32 c o f v = { d with mem := d.mem.writeBytes c.byteOrder (linAddress o f) 4 v } :=
  if_pos (decide_eq_true h)

/-- A linear write that ends outside the region is dropped whole (44_memory_shim.md R190, R192). -/
theorem Device.write32_of_lt (d : Device) {c : Config} {o f : Word} (v : Word)
    (h : c.regionSize < linAddress o f + 4) : d.write32 c o f v = d :=
  if_neg (by simpa [linAllowed] using h)

/-- A linear write at an address that fits leaves the word there and changes only its four bytes. -/
theorem write32_writesOneWord (s : State) {o f : Word} (v : Word) (r : Ret)
    (h : linAddress o f + 4 ≤ s.cfg.regionSize) :
    HoldsWord s.cfg.byteOrder (s.dev.write32 s.cfg o f v).mem (linAddress o f) v ∧
      OnlyBytes s { s with dev := s.dev.write32 s.cfg o f v, ret := r } (linAddress o f) 4 := by
  rw [Device.write32_of_le s.dev v h]
  exact ⟨holdsWord_writeBytes .., onlyBytes_writeBytes ..⟩

/-- A linear write at an address that does not fit changes no byte. -/
theorem write32_writesNothing (s : State) {o f : Word} (addr n : Nat) (v : Word) (r : Ret)
    (h : s.cfg.regionSize < linAddress o f + 4) :
    OnlyBytes s { s with dev := s.dev.write32 s.cfg o f v, ret := r } addr n := by
  rw [Device.write32_of_lt s.dev v h]
  exact onlyBytes_ret s addr n r

/-! ## The semaphore write -/

/-- Settles O33: the acquire is the linear write at the channel's object and offset, and it succeeds whether
or not the write fits. -/
theorem semaphoreAcquireWritesOneWord : Obligations.SemaphoreAcquireWritesOneWord := by
  refine ⟨isKelvinRow_kelvinRow (some .semaphoreAcquire), fun via c code p s => ⟨_, rfl, rfl, ?_⟩⟩
  rintro _ rfl
  exact ⟨write32_writesOneWord s p (.success true), write32_writesNothing s _ 0 p (.success true)⟩

end Sys2Proof.Machine
end

section
/-! Statements of 44_memory_shim.md: the linear accesses (R190 to R192), the window accesses (R193, R194), who
writes the memory (R195), and the region and its sizes (R196). -/

namespace Sys2Proof.Machine

/-! ## The invariant of the memory -/

/-- The canonical form and the bound of a region, of a device built with given parameters
(44_memory_shim.md R196; log entry 7). -/
def Device.memInv (cfg : Config) (d : Device) : Prop :=
  d.mem.wf = true ∧ d.mem.within cfg.regionSize = true

theorem State.memInv_iff (s : State) : s.memInv ↔ s.dev.memInv s.cfg := Iff.rfl

/-- The invariant depends on the bytes alone. -/
theorem Device.memInv.congr {cfg : Config} {d e : Device} (h : d.memInv cfg) (he : e.mem = d.mem) :
    e.memInv cfg := by
  rwa [Device.memInv, he]

theorem Device.memInv.write32 {cfg : Config} {d : Device} (h : d.memInv cfg) (o f v : Word) :
    (d.write32 cfg o f v).memInv cfg := d.write32_keeps cfg o f v h.1 h.2

theorem Device.memInv.raminWrite {cfg : Config} {d : Device} (h : d.memInv cfg) (a n : Nat) (v : Word) :
    (d.raminWrite cfg a n v).memInv cfg := d.raminWrite_keeps cfg a n v h.1 h.2

theorem Device.memInv.runD3d {cfg : Config} {d : Device} (h : d.memInv cfg) (m : D3DMethod) (c : ChanId)
    (p : Word) : (runD3d cfg m c p d).memInv cfg := runD3d_keeps cfg m c p d h.1 h.2

/-- A kick keeps the invariant whatever its commands, as each 3D method does. -/
theorem Device.memInv.kick {cfg : Config} {d : Device} (h : d.memInv cfg) : (d.kick cfg).memInv cfg :=
  Device.kick_induct cfg d h fun c _ m p _ he => he.runD3d m c p

/-- Every operation keeps the parameters and the invariant of the memory (44_memory_shim.md R196). -/
theorem exec_keeps_memInv {i : Instr} {s t : State} (hs : s.memInv) (h : exec i s = .next t) :
    t.memInv ∧ t.cfg = s.cfg := by
  obtain ⟨hd, hcfg, -⟩ := exec_change h
  refine ⟨?_, hcfg⟩
  rw [State.memInv_iff] at hs ⊢
  rw [hcfg]
  generalize t.dev = d at hd ⊢
  cases hd with
  | same => exact hs
  | plain | driven | surf2d | reset => exact hs.congr rfl
  | acked => exact hs.congr (by simp)
  | method m c p => exact hs.runD3d m c p
  | linear o f v => exact hs.write32 o f v
  | window a n v => exact hs.raminWrite a n v
  | putKick v => exact (hs.congr (Device.writeReg_mem _ .cache1Put v)).kick
  | kick => exact hs.kick

/-- Settles O51: a step runs one operation or none. -/
theorem stepKeepsTheMemory : Obligations.StepKeepsTheMemory := by
  intro s t hs h
  obtain rfl | ⟨i, rest, h⟩ := step_cases h
  · exact ⟨hs, rfl⟩
  · obtain ⟨ht, hcfg⟩ := exec_keeps_memInv (s := { s with env := rest }) hs h
    exact ⟨ht, congrArg Config.regionSize hcfg⟩

/-! ## Bytes and words -/

/-- The bytes of a value are its digits in base 256 (20_memory.md R51). -/
theorem byteOf_ofNat_toNat (x : Nat) {k : Nat} (hk : k < 4) :
    (byteOf (BitVec.ofNat 32 x) k).toNat = x / 256 ^ k % 256 := by
  simp only [byteOf, BitVec.extractLsb'_toNat, BitVec.toNat_ofNat, Nat.shiftRight_eq_div_pow]
  interval_cases k <;> omega

/-- Each byte of a 4-byte read is the byte of the memory at its place (20_memory.md R51). -/
theorem byteOf_readBytes (o : ByteOrder) (m : Memory) (addr : Nat) {i : Nat} (hi : i < 4) :
    byteOf (m.readBytes o addr 4) (bytePos o 4 i) = m.read (addr + i) := by
  have hpos : bytePos o 4 i < 4 := by cases o <;> simp only [bytePos] <;> omega
  have h0 := (m.read addr).isLt
  have h1 := (m.read (addr + 1)).isLt
  have h2 := (m.read (addr + 2)).isLt
  have h3 := (m.read (addr + 3)).isLt
  apply BitVec.eq_of_toNat_eq
  rw [Memory.readBytes_four, byteOf_ofNat_toNat _ hpos]
  cases o with
  | little | big =>
    interval_cases i <;> simp only [bytePos, Nat.add_zero, Nat.reduceSub, Nat.reducePow] <;> omega

/-- A memory holds a word whose bytes it reads at their places. -/
theorem holdsWord_of_bytes {o : ByteOrder} {m : Memory} {addr : Nat} {v : Word}
    (h : ∀ i < 4, m.read (addr + i) = byteOf v (bytePos o 4 i)) : HoldsWord o m addr v := by
  cases o with
  | little | big => exact ⟨h 0 (by decide), h 1 (by decide), h 2 (by decide), h 3 (by decide)⟩

/-- The memory holds what a 4-byte read returns, in either order (20_memory.md R51). -/
theorem holdsWord_readBytes (o : ByteOrder) (m : Memory) (addr : Nat) :
    HoldsWord o m addr (m.readBytes o addr 4) :=
  holdsWord_of_bytes fun _ hi => (byteOf_readBytes o m addr hi).symm

/-! ## Linear accesses -/

/-- Settles O43: a read that fits returns the word that the memory holds there, and any other returns 0. -/
theorem read32ReadsOneWord : Obligations.Read32ReadsOneWord := by
  intro c s o f
  refine ⟨rfl, s.dev.read32 s.cfg o f, rfl, fun hfit => ?_, fun hout => ?_⟩ <;>
    rw [Device.read32_eq, linAddress]
  · rw [if_pos hfit]
    exact holdsWord_readBytes ..
  · exact if_neg (by omega)

/-- Settles O44, by what a linear write does where it fits and where it does not. -/
theorem write32WritesOneWord : Obligations.Write32WritesOneWord := fun _ s _ _ v =>
  ⟨rfl, _, rfl, rfl, write32_writesOneWord s v .none, write32_writesNothing s 0 0 v .none⟩

/-! ## Window accesses -/

/-- A window read of another size, or one that does not end inside the window, returns 0
(44_memory_shim.md R193). -/
theorem Device.raminRead_of_refused (d : Device) {c : Config} {a n : Nat}
    (h : (n ≠ 1 ∧ n ≠ 4) ∨ c.raminSize < a + n) : d.raminRead c a n = 0 := by
  rw [Device.raminRead_eq, if_neg (by omega)]

/-- Settles O45, by the two sizes that act on the window and the refusal of every other access. -/
theorem raminReadReadsTheWindow : Obligations.RaminReadReadsTheWindow := by
  intro c s a n
  refine ⟨rfl, s.dev.raminRead s.cfg a n, rfl, ?_, ?_, s.dev.raminRead_of_refused⟩
  · rintro rfl hfit
    exact s.dev.raminRead_one s.cfg hfit
  · rintro rfl hfit
    rw [Device.raminRead_eq, if_pos ⟨.inr rfl, hfit⟩]
    exact holdsWord_readBytes ..

/-- A window write leaves the device with the memory that it writes (44_memory_shim.md R194). -/
theorem Device.raminWrite_eq (d : Device) (c : Config) (a n : Nat) (v : Word) :
    d.raminWrite c a n v = d.withMem (d.raminWrite c a n v).mem :=
  Device.eq_withMem (by simp) (by simp) (by simp) (by simp)

/-- A window write of an accepted size that ends inside the window stores its bytes at the tail of the region
(44_memory_shim.md R194). -/
theorem Device.raminWrite_of_fits (d : Device) {c : Config} {a n : Nat} (v : Word) (hn : n = 1 ∨ n = 4)
    (hfit : a + n ≤ c.raminSize) :
    d.raminWrite c a n v =
      d.withMem (d.mem.writeBytes c.byteOrder (c.regionSize - c.raminSize + a) n v) := by
  rw [Device.raminWrite_eq, Device.raminWrite_mem, if_pos ⟨hn, hfit⟩]

/-- A window write of another size, or one that does not end inside the window, is dropped whole
(44_memory_shim.md R194). -/
theorem Device.raminWrite_of_refused (d : Device) {c : Config} {a n : Nat} (v : Word)
    (h : (n ≠ 1 ∧ n ≠ 4) ∨ c.raminSize < a + n) : d.raminWrite c a n v = d := by
  rw [Device.raminWrite_eq, Device.raminWrite_mem, if_neg (by omega)]
  rfl

/-- A 1-byte write stores the low byte of its value, in either order (20_memory.md R51). -/
theorem Memory.read_writeBytes_one (o : ByteOrder) (m : Memory) (addr : Nat) (v : Word) :
    (m.writeBytes o addr 1 v).read addr = v.extractLsb' 0 8 := by
  have hpos : bytePos o 1 0 = 0 := by cases o <;> rfl
  calc (m.writeBytes o addr 1 v).read addr
      = byteOf v (bytePos o 1 0) := m.read_writeBytes_add (i := 0) o addr v Nat.one_pos
    _ = v.extractLsb' 0 8 := by rw [hpos]; rfl

/-- Settles O46, by the two sizes that act on the window and the refusal of every other access. -/
theorem raminWriteWritesTheWindow : Obligations.RaminWriteWritesTheWindow := by
  intro c s a n v
  refine ⟨rfl, { s with dev := s.dev.raminWrite s.cfg a n v, ret := .none }, rfl, rfl, ?_⟩
  rintro _ rfl
  refine ⟨?_, ?_, fun hrefused => ?_⟩
  · rintro rfl hfit
    rw [s.dev.raminWrite_of_fits v (.inl rfl) hfit]
    exact ⟨Memory.read_writeBytes_one .., onlyBytes_writeBytes ..⟩
  · rintro rfl hfit
    rw [s.dev.raminWrite_of_fits v (.inr rfl) hfit]
    exact ⟨holdsWord_writeBytes .., onlyBytes_writeBytes ..⟩
  · rw [s.dev.raminWrite_of_refused v hrefused]
    exact onlyBytes_ret ..

/-! ## Who writes the memory -/

/-- The setter that the stub runs writes no byte (42_command_dispatcher.md R163). -/
theorem Device.kick_mem_of_stub {cfg : Config} (hk : cfg.kickFetch = .stub) (d : Device) :
    (d.kick cfg).mem = d.mem := by
  obtain ⟨c, hc, -⟩ := chanOf_kickChid d.reg
  rw [Device.kick_stub cfg d hk hc]
  rfl

/-- With the stub, the operations that can kick leave the memory (44_memory_shim.md R195). -/
theorem exec_mem_of_stub_kick {i : Instr} {s t : State} (hi : i.mayKick = true)
    (hk : s.cfg.kickFetch = .stub) (h : exec i s = .next t) : t.dev.mem = s.dev.mem := by
  cases i with
  | kick =>
    cases h
    exact Device.kick_mem_of_stub hk s.dev
  | wrCache1Put v =>
    cases hp : pushEnabled s.dev.reg with
    | false =>
      rw [exec_wrCache1Put_of_push_disabled hp] at h
      cases h
      rfl
    | true =>
      rw [exec_wrCache1Put_of_push_enabled hp] at h
      cases h
      exact Device.kick_mem_of_stub hk (s.dev.writeReg .cache1Put v)
  | _ => cases hi

/-- Settles O50: neither an operation that cannot reach the shim's writes nor a kick of the stub changes the
memory. -/
theorem onlyTheShimWritesMemory : Obligations.OnlyTheShimWritesMemory := by
  intro i s t h hi
  have hmem : t.dev.mem = s.dev.mem := by
    obtain hstore | ⟨hkick, hstub⟩ := hi
    · exact exec_mem_of_not_mayStore hstore h
    · exact exec_mem_of_stub_kick hkick hstub h
  exact fun a => congrArg (·.read a) hmem

end Sys2Proof.Machine

namespace Sys2Proof

/-! ## The sizes of region and window -/

/-- A window that fits leaves the bytes below it, so that region and window have the sizes asked for
(00_scope.md R5). -/
theorem Config.withSizes_of_le (c : Config) {region window : Nat} (h : window ≤ region) :
    c.withSizes region window = some { c with regionBelow := region - window, raminSize := window } :=
  if_pos h

/-- A window larger than its region is refused (44_memory_shim.md R196). -/
theorem Config.withSizes_of_lt (c : Config) {region window : Nat} (h : region < window) :
    c.withSizes region window = none := if_neg (Nat.not_le.mpr h)

/-- Settles O53: the bytes below the window and the window add up to the region. -/
theorem oversizedWindowIsRefused : Obligations.OversizedWindowIsRefused := fun c _ _ =>
  ⟨c.withSizes_of_lt, fun h =>
    ⟨_, c.withSizes_of_le h, Nat.sub_add_cancel h, rfl, rfl, rfl, rfl, rfl, rfl, rfl⟩⟩

end Sys2Proof
end

section
/-! Statements of 60_exceptions.md: every operation completes (R210), an error changes nothing (R211, R213), and
acknowledging through `MC_INTR` is idempotent (R218). -/

namespace Sys2Proof.Machine

/-! ## Completion -/

/-- A step does nothing or runs one operation, and both complete (60_exceptions.md R210). -/
theorem step_completes (s : State) : s.stepCompletes := by
  cases he : s.env with
  | nil => exact ⟨s, step_of_env_nil he⟩
  | cons x rest =>
    obtain ⟨t, h⟩ := exec_completes (decode s.cfg x) { s with env := rest }
    exact ⟨t, (step_of_env_cons he).trans h⟩

/-- Settles O8: none of the changes that an operation can make is one of the parameters or of the
environment's list. -/
theorem everyOperationCompletes : Obligations.EveryOperationCompletes := by
  refine ⟨fun i s => ?_, step_completes⟩
  obtain ⟨t, h⟩ := exec_completes i s
  obtain ⟨-, hcfg, henv⟩ := exec_change h
  exact ⟨t, h, hcfg, henv⟩

/-! ## Acknowledging twice -/

/-- A register written with the value that it holds stays as it is. -/
theorem RegFile.set_get (f : RegFile) (r : Reg) : f.set (f.get r) r = f := by
  refine RegFile.ext_get fun q => ?_
  rw [RegFile.get_set]
  split
  · next h => rw [h]
  · rfl

/-- To acknowledge a latch that is 0 already does nothing (40_register_frontend.md R101). -/
theorem Device.ackLatch_of_clear {d : Device} {r : Reg} {b : Bool} (h : b = true → d.reg.get r = 0) :
    d.ackLatch r b = d := by
  cases b with
  | false => rfl
  | true =>
    have hset : d.reg.set 0 r = d.reg := by rw [← h rfl, RegFile.set_get]
    exact congrArg (fun f => { d with reg := f }) hset

/-- A write of `MC_INTR` that names no latch but clear ones drives the line and does nothing else
(40_register_frontend.md R101). -/
theorem exec_wrMcIntr_of_clear {s : State} {v : Word} (hbus : acksBus v = true → s.dev.reg.get .busIntr = 0)
    (hfifo : acksFifo v = true → s.dev.reg.get .fifoIntr = 0) :
    exec (.wrMcIntr v) s = s.wrote s.dev.updateIrq := by
  change s.wrote ((s.dev.ackLatch .busIntr (acksBus v)).ackLatch .fifoIntr (acksFifo v)).updateIrq = _
  rw [Device.ackLatch_of_clear hbus, Device.ackLatch_of_clear hfifo]

/-- Settles O18: the first write leaves the latches that it names clear and the line at the level of its
registers, so the second drives the same level and does nothing else. -/
theorem mcIntrAcknowledgeIsIdempotent : Obligations.McIntrAcknowledgeIsIdempotent := by
  intro v s t h
  obtain ⟨-, t', h', hbus, hfifo, -⟩ := mcIntrWriteClearsWholeLatches s.cfg v s
  obtain rfl : t = t' := Host.Outcome.next.inj (h.symm.trans h')
  obtain ⟨hirq, -⟩ := exec_lineDriven rfl h
  refine ⟨_, exec_wrMcIntr_of_clear (fun hv => hbus.trans (if_pos hv)) (fun hv => hfifo.trans (if_pos hv)),
    fun _ => rfl, hirq.symm, ?_, fun _ _ => rfl, fun _ => rfl, rfl, rfl⟩
  rw [hirq]
  rfl

/-! ## The causes of a memory access -/

/-- A linear access meets a cause only where it ends outside the region (60_exceptions.md R213). -/
theorem lt_of_linDiag_ne_nil {c : Config} {o f : Word} (h : linDiag c o f ≠ []) :
    c.regionSize < linAddress o f + 4 := by
  by_contra hfit
  exact h (if_pos (decide_eq_true (Nat.not_lt.mp hfit)))

/-- The one cause of a linear access is that it is out of bounds (60_exceptions.md R213). -/
theorem linDiag_of_ne_nil {c : Config} {o f : Word} (h : linDiag c o f ≠ []) :
    linDiag c o f = [.boundsLinear] := by
  unfold linDiag at h ⊢
  split at h
  · exact absurd rfl h
  · exact if_neg ‹_›

/-- A window access meets a cause only where its size is refused or it ends outside the window
(60_exceptions.md R213). -/
theorem refused_of_raminDiag_ne_nil {c : Config} {a n : Nat} (h : raminDiag c a n ≠ []) :
    (n ≠ 1 ∧ n ≠ 4) ∨ c.raminSize < a + n := by
  by_contra haccepted
  refine h ?_
  have hsize : n = 1 ∨ n = 4 := by omega
  have hfit : a + n ≤ c.raminSize := by omega
  simp [raminDiag, raminSizeOk, raminAddr, hsize, hfit]

/-- A linear read that ends outside the region returns 0 (44_memory_shim.md R191). -/
theorem Device.read32_of_lt (d : Device) {c : Config} {o f : Word} (h : c.regionSize < linAddress o f + 4) :
    d.read32 c o f = 0 := by
  rw [Device.read32_eq, if_neg (Nat.not_le.mpr h)]

/-! ## The causes of a dispatch -/

/-- Of a dispatch that meets the causes `cs` in the device `d`, with the result `r`: if there is a cause, the
device is left, and the dispatch fails but for an access of the region out of bounds
(60_exceptions.md R211, 43_d3d_methods.md R181). -/
def KeepsOnCause (cs : List Cause) (d : Device) (r : Device × Bool) : Prop :=
  cs ≠ [] → r.1 = d ∧ (r.2 = true → cs = [.boundsLinear])

theorem KeepsOnCause.of_nil (d : Device) (r : Device × Bool) : KeepsOnCause [] d r :=
  fun h => absurd rfl h

theorem KeepsOnCause.failed (cs : List Cause) (d : Device) : KeepsOnCause cs d (d, false) :=
  fun _ => ⟨rfl, nofun⟩

/-- Of the 3D methods only the semaphore write meets a cause; its write is then dropped, and it succeeds
(43_d3d_methods.md R181). -/
theorem runD3d_keepsOnCause (cfg : Config) (m : D3DMethod) (c : ChanId) (p : Word) (d : Device) :
    KeepsOnCause (d3dDiag cfg d c m) d (runD3d cfg m c p d, true) := by
  cases m with
  | semaphoreAcquire =>
    exact fun h => ⟨d.write32_of_lt p (lt_of_linDiag_ne_nil h), fun _ => linDiag_of_ne_nil h⟩
  | semaphoreObject | semaphoreOffset | clipHorizontal | clipVertical | surfaceFormat | surfacePitch
  | surfaceColorOffset | clearSurface | colorClearValue => exact .of_nil d _

theorem execD3dMethod_keepsOnCause (cfg : Config) (c : ChanId) (code p : Word) (d : Device) :
    KeepsOnCause (d3dMethodDiag cfg d c code) d (execD3dMethod cfg c code p d) := by
  unfold d3dMethodDiag execD3dMethod
  cases cfg.d3dMethodOf code with
  | none => exact .failed _ d
  | some m => exact runD3d_keepsOnCause cfg m c p d

/-- A command keeps the device on each cause of its check order: channel, subchannel, class, method
(60_exceptions.md R216). -/
theorem execEngine_keepsOnCause (cfg : Config) (chid subc cls code p : Word) (d : Device) :
    KeepsOnCause (engineDiag cfg d chid subc cls code) d (execEngine cfg chid subc cls code p d) := by
  unfold engineDiag execEngine
  cases chanOf chid with
  | none => exact .failed _ d
  | some c =>
    cases subOf subc with
    | none => exact .failed _ d
    | some u =>
      cases cfg.classOf cls with
      | none => exact .failed _ d
      | some k =>
        cases k with
        | kelvin => exact execD3dMethod_keepsOnCause cfg c code p d
        | surf2d =>
          cases hm : cfg.surf2dMethodOf code with
          | none =>
            change KeepsOnCause _ d (execSurf2d cfg c code p d)
            rw [execSurf2d_of_none hm]
            exact .failed _ d
          | some m => exact .of_nil d _
        | gdi | m2mf | ifc => exact .of_nil d _

theorem execD3d_keepsOnCause (cfg : Config) (chid code p : Word) (d : Device) :
    KeepsOnCause (d3dcmdDiag cfg d chid code) d (execD3d cfg chid code p d) := by
  unfold d3dcmdDiag execD3d
  cases chanOf chid with
  | none => exact .failed _ d
  | some c => exact execD3dMethod_keepsOnCause cfg c code p d

/-! ## What an error leaves -/

/-- What an operation that meets the causes `cs` may return (60_exceptions.md R211, 43_d3d_methods.md R181). -/
def ErrorRet (cs : List Cause) (r : Ret) : Prop :=
  r = .word 0 ∨ r = .none ∨ r = .success false ∨ (r = .success true ∧ cs = [.boundsLinear])

/-- A read that returns 0 is the outcome of an error. -/
theorem errorRet_answer (s : State) {v : Word} (cs : List Cause) (hv : v = 0) :
    ∃ r, s.answer v = .next { s with ret := r } ∧ ErrorRet cs r :=
  ⟨_, rfl, .inl (congrArg Ret.word hv)⟩

/-- A write that leaves the device is the outcome of an error. -/
theorem errorRet_wrote (s : State) {d : Device} (cs : List Cause) (hd : d = s.dev) :
    ∃ r, s.wrote d = .next { s with ret := r } ∧ ErrorRet cs r := by
  subst hd
  exact ⟨_, rfl, .inr (.inl rfl)⟩

/-- A dispatch that keeps the device on a cause has, with a cause, the outcome of an error. -/
theorem errorRet_dispatched {s : State} {cs : List Cause} {q : Device × Bool} (h : KeepsOnCause cs s.dev q)
    (hcs : cs ≠ []) : ∃ r, s.dispatched q = .next { s with ret := r } ∧ ErrorRet cs r := by
  obtain ⟨d, b⟩ := q
  obtain ⟨rfl, hb⟩ := h hcs
  refine ⟨_, rfl, ?_⟩
  cases b with
  | false => exact .inr (.inr (.inl rfl))
  | true => exact .inr (.inr (.inr ⟨rfl, hb rfl⟩))

/-- Settles O56: the rejected accesses and rows have no effect, an access of memory with a cause does not fit,
and every dispatch keeps the device on a cause. -/
theorem errorsChangeNothing : Obligations.ErrorsChangeNothing := by
  intro i s hi hcause
  cases i with
  | rdBadsize | rdOor | rdUnknown => exact errorRet_answer s _ rfl
  | wrBadsize | wrOor | wrUnknown => exact errorRet_wrote s _ rfl
  | raminRd a n => exact errorRet_answer s _ (s.dev.raminRead_of_refused (refused_of_raminDiag_ne_nil hcause))
  | raminWr a n v => exact errorRet_wrote s _ (s.dev.raminWrite_of_refused v (refused_of_raminDiag_ne_nil hcause))
  | read32 o f => exact errorRet_answer s _ (s.dev.read32_of_lt (lt_of_linDiag_ne_nil hcause))
  | write32 o f v => exact errorRet_wrote s _ (s.dev.write32_of_lt v (lt_of_linDiag_ne_nil hcause))
  | cmd chid subc cls code p =>
    exact errorRet_dispatched (execEngine_keepsOnCause s.cfg chid subc cls code p s.dev) hcause
  | d3dcmd chid code p => exact errorRet_dispatched (execD3d_keepsOnCause s.cfg chid code p s.dev) hcause
  | kelvinSemaphoreAcquire via c code p =>
    exact errorRet_dispatched (runD3d_keepsOnCause s.cfg .semaphoreAcquire c p s.dev) hcause
  | cmdBadchid | cmdBadsubc | classUnknown | surf2dUnknown | kelvinUnknown =>
    exact errorRet_dispatched (.failed _ s.dev) hcause
  | wrCache1Put | kick => cases hi
  | _ => exact absurd rfl hcause

end Sys2Proof.Machine
end

section
/-! Statements of 70_reset_and_hazards.md: what reset leaves, and that it is idempotent but for the trace
(R230). -/

namespace Sys2Proof.Machine

/-! ## What reset leaves -/

/-- `RESET` runs the device's reset and returns nothing (70_reset_and_hazards.md R230). -/
theorem exec_reset (s : State) : exec .reset s = .next { s with dev := s.dev.resetAll, ret := .none } :=
  rfl

/-- The whole device after reset: the line is driven low, since no cause is latched; of the device before it
only the memory and the trace remain (70_reset_and_hazards.md R230). -/
theorem Device.resetAll_eq (d : Device) :
    d.resetAll =
      { reg := RegFile.initial
        chan := Vector.replicate 32 Channel.initial
        mem := d.mem
        irq := false
        out := d.out ++ [.irqLevel false] } := by
  rw [Device.resetAll, Device.updateIrq, line_initial]
  rfl

/-- Every channel is as at launch after reset (10_state.md R37). -/
theorem Device.resetAll_channel (d : Device) (c : ChanId) : d.resetAll.channel c = Channel.initial :=
  Device.channel_replicate d.resetAll_chan c

/-- Settles O57, by the reset values of the registers and of a channel, and the level of the line after
reset. -/
theorem resetOperation : Obligations.ResetOperation := by
  intro c s
  refine ⟨rfl, _, exec_reset s, RegFile.get_initial, fun ch => ?channel, ?irq, ?out, fun _ => rfl,
    ⟨rfl, rfl⟩, rfl⟩
  case channel =>
    rw [Device.resetAll_channel]
    exact ⟨Channel.bind_initial, rfl, rfl⟩
  case irq => rw [Device.resetAll_irq, line_initial]
  case out => rw [Device.resetAll_out, line_initial]

/-! ## Resetting twice -/

/-- A second reset of the device only records the level of the line again (70_reset_and_hazards.md R230). -/
theorem Device.resetAll_resetAll (d : Device) :
    d.resetAll.resetAll = d.resetAll.emit (.irqLevel false) := by
  rw [d.resetAll.resetAll_eq, d.resetAll_eq]
  rfl

/-- Settles O58, by the second reset of the device; the result of the first is already nothing. -/
theorem resetIsIdempotent : Obligations.ResetIsIdempotent := by
  intro s t h
  cases (exec_reset s).symm.trans h
  rw [exec_reset, Device.resetAll_resetAll]
  rfl

end Sys2Proof.Machine
end
